-- ==== Sys2Proof/Word.lean ====
section
/-! DEFINITION. The words of the block and its smallest types (00_scope.md R13, R14). -/

namespace Sys2Proof

/-- A data byte: the operand of WRITE, a command byte or a segment byte (R13, R63). -/
abbrev Byte := BitVec 8

/-- A request word, exactly 10 bits (R64, R66). -/
abbrev ReqWord := BitVec 10

/-- A line-action code, exactly 5 bits (R64, R70). -/
abbrev LineWord := BitVec 5

/-- The two lines (R9, R14). -/
inductive Line where
  | clk
  | dio
deriving DecidableEq, Repr, Inhabited

/-- A pin's direction (R14): driven is an output asserted low, released an input floating high. -/
inductive Dir where
  | driven
  | released
deriving DecidableEq, Repr, Inhabited

/-- A wire level (R14): low is 0, high is 1. -/
inductive Level where
  | low
  | high
deriving DecidableEq, Repr, Inhabited

/-- The three operations of the block (R14, R67). -/
inductive Op where
  | start
  | stop
  | write
deriving DecidableEq, Repr, Inhabited

/-- Who may take a step (R8, R83): the single thread (host acceptance and master action, which are never enabled
together) or the timer interrupt. -/
inductive Agent where
  | thread
  | timer
deriving DecidableEq, Repr, Inhabited

/-- Four things in buffer order: position 0 is the leftmost digit, position 3 the rightmost (R127). -/
structure Quad (α : Type) where
  p0 : α
  p1 : α
  p2 : α
  p3 : α
deriving DecidableEq, Repr, Inhabited

/-- A decimal digit, 0 to 9 (R127). -/
abbrev Digit := Fin 10

end Sys2Proof
end

