-- ==== Sys2Proof/Syntax.lean ====
section
/-! DEFINITION. What can be written down: the instructions (one constructor per row of the opcode table), the events
of a trace, and the assembler's lines. -/

namespace Sys2Proof

/-- The instructions: three requests (R67) and six line actions (R71). -/
inductive Instr where
  /-- START, StartCondition() (R101). -/
  | start
  /-- STOP, StopCondition() (R103). -/
  | stop
  /-- WRITE imm8, WriteByte(byte) (R113). -/
  | write (d : Byte)
  /-- DRV CLK, DriveLow(CLK) (R89). -/
  | drvClk
  /-- DRV DIO, DriveLow(DIO) (R89). -/
  | drvDio
  /-- REL CLK, Release(CLK) (R90). -/
  | relClk
  /-- REL DIO, Release(DIO) (R90). -/
  | relDio
  /-- RD DIO v, Read(DIO) that returned v (R71, R91). The code carries v; the step supplies the draw (log entry 20). -/
  | rdDio (v : Level)
  /-- WAIT, wait(T_SETTLE) (R92). -/
  | wait
deriving DecidableEq, Repr

/-- The two formats that carry instructions (R63). -/
inductive Format where
  | req
  | line
deriving DecidableEq, Repr

/-- A word as it is found: on the request port or in the trace (R64). -/
inductive CodeWord where
  | req (w : ReqWord)
  | line (w : LineWord)
deriving DecidableEq, Repr

/-- The format a word was found in (R64). -/
def CodeWord.format : CodeWord → Format
  | .req _ => .req
  | .line _ => .line

/-- The format of an instruction (R63). -/
def Instr.format : Instr → Format
  | .start => .req
  | .stop => .req
  | .write _ => .req
  | .drvClk => .line
  | .drvDio => .line
  | .relClk => .line
  | .relDio => .line
  | .rdDio _ => .line
  | .wait => .line

/-- An event of the trace (R14, R70): a line action that has been performed. -/
inductive Event where
  | drv (l : Line)
  | rel (l : Line)
  | rd (v : Level)
  | wait
deriving DecidableEq, Repr

/-- A line action of an action list (R17, R100, R102, R112): a read's level is not known before it is performed. -/
inductive LineAction where
  | drv (l : Line)
  | rel (l : Line)
  | rd
  | wait
deriving DecidableEq, Repr

/-- A line of assembler text (R79) or a pseudo-instruction (R80); its numbers are not yet checked. -/
inductive AsmLine where
  | start
  | stop
  | write (imm : Nat)
  | frame (bytes : List Nat)
  | setMode
  | setDigits (s0 s1 s2 s3 : Nat)
  | dispOn (b : Nat)
  | dispOff
deriving DecidableEq, Repr

end Sys2Proof
end

