-- ==== Sys2Proof/Decode.lean ====
section
/-! DEFINITION. The decoder of both formats, total, rejecting by name (30_encoding.md R66 to R73, R77); after it the
encoder, from the same tables. -/

namespace Sys2Proof

/-- Why a word is no instruction: the reserved words of R69, the reserved codes of R73. -/
inductive DecodeError where
  /-- A REQ word with op 0b00 (R69). -/
  | reservedOp
  /-- A REQ word of op START with data other than 0 (R69). -/
  | startData
  /-- A REQ word of op STOP with data other than 0 (R69). -/
  | stopData
  /-- A LINE code whose line is 0b1x (R73). -/
  | reservedLine
  /-- RD CLK (R73). -/
  | readClk
  /-- WAIT with a line other than 0b00 (R73). -/
  | waitLine
  /-- v = 1 on a kind other than RD (R72, R73). -/
  | strayLevel
deriving DecidableEq, Repr

/-- Bits 9:8 of a request word: the operation selector (R66). -/
def reqOp (w : ReqWord) : BitVec 2 :=
  w.extractLsb' 8 2

/-- Bits 7:0 of a request word: the byte to send (R66, R68). -/
def reqData (w : ReqWord) : Byte :=
  w.extractLsb' 0 8

/-- Bit 4 of a line code: the sampled level of a read (R70). -/
def lineLevelBit (w : LineWord) : Bool :=
  w.getLsbD 4

/-- Bits 3:2 of a line code: DRV, REL, RD or WAIT (R70). -/
def lineKind (w : LineWord) : BitVec 2 :=
  w.extractLsb' 2 2

/-- Bits 1:0 of a line code: CLK, DIO, or reserved (R70). -/
def lineLine (w : LineWord) : BitVec 2 :=
  w.extractLsb' 0 2

/-- A level's bit: 0 is low, 1 is high (R14). -/
def Level.ofBool : Bool → Level
  | false => .low
  | true => .high

/-- The bit of a level (R14). -/
def Level.toBool : Level → Bool
  | .low => false
  | .high => true

/-- The REQ decoder (R77). -/
def decodeReq (w : ReqWord) : Except DecodeError Instr :=
  if reqOp w = 0b11#2 then .ok (.write (reqData w))
  else if reqOp w = 0b01#2 then
    if reqData w = 0#8 then .ok .start else .error .startData
  else if reqOp w = 0b10#2 then
    if reqData w = 0#8 then .ok .stop else .error .stopData
  else .error .reservedOp

/-- The line action of a kind that takes a line and no level: DRV and REL (R70 to R72). -/
def decodeDrive (onClk onDio : Instr) (w : LineWord) : Except DecodeError Instr :=
  if lineLevelBit w then .error .strayLevel
  else if lineLine w = 0b00#2 then .ok onClk
  else .ok onDio

/-- The LINE decoder (R70 to R73, R77). -/
def decodeLine (w : LineWord) : Except DecodeError Instr :=
  if lineLine w = 0b10#2 ∨ lineLine w = 0b11#2 then .error .reservedLine
  else if lineKind w = 0b00#2 then decodeDrive .drvClk .drvDio w
  else if lineKind w = 0b01#2 then decodeDrive .relClk .relDio w
  else if lineKind w = 0b10#2 then
    if lineLine w = 0b00#2 then .error .readClk else .ok (.rdDio (Level.ofBool (lineLevelBit w)))
  else if lineLine w = 0b01#2 then .error .waitLine
  else if lineLevelBit w then .error .strayLevel
  else .ok .wait

/-- The decoder: the format is where the word was found (R64). -/
def decode : CodeWord → Except DecodeError Instr
  | .req w => decodeReq w
  | .line w => decodeLine w

/-- The encoder: the word of each instruction (R67, R71). -/
def encode : Instr → CodeWord
  | .start => .req 0x100#10
  | .stop => .req 0x200#10
  | .write d => .req (0x300#10 ||| d.setWidth 10)
  | .drvClk => .line 0x00#5
  | .drvDio => .line 0x01#5
  | .relClk => .line 0x04#5
  | .relDio => .line 0x05#5
  | .rdDio .low => .line 0x09#5
  | .rdDio .high => .line 0x19#5
  | .wait => .line 0x0C#5

/-- The request word of a request instruction; a line action has none (R63). -/
def Instr.reqWord? (i : Instr) : Option ReqWord :=
  match encode i with
  | .req w => some w
  | .line _ => none

/-- The event a line action is recorded as; a request is recorded as none (R16, R70). -/
def Instr.event? : Instr → Option Event
  | .start => none
  | .stop => none
  | .write _ => none
  | .drvClk => some (.drv .clk)
  | .drvDio => some (.drv .dio)
  | .relClk => some (.rel .clk)
  | .relDio => some (.rel .dio)
  | .rdDio v => some (.rd v)
  | .wait => some .wait

/-- The line action an event records. -/
def Event.instr : Event → Instr
  | .drv .clk => .drvClk
  | .drv .dio => .drvDio
  | .rel .clk => .relClk
  | .rel .dio => .relDio
  | .rd v => .rdDio v
  | .wait => .wait

/-- The event of an action whose read, if it is one, returned v. -/
def LineAction.event (v : Level) : LineAction → Event
  | .drv l => .drv l
  | .rel l => .rel l
  | .rd => .rd v
  | .wait => .wait

/-- The line action to perform for an action, a read returning v. -/
def LineAction.instr (v : Level) (a : LineAction) : Instr :=
  (a.event v).instr

/-- The code of an event (R70, R71). -/
def Event.code : Event → LineWord
  | .drv .clk => 0x00#5
  | .drv .dio => 0x01#5
  | .rel .clk => 0x04#5
  | .rel .dio => 0x05#5
  | .rd .low => 0x09#5
  | .rd .high => 0x19#5
  | .wait => 0x0C#5

/-- Read one event back from its code; a reserved code is rejected by name (R73). -/
def decodeEvent (w : LineWord) : Except DecodeError Event :=
  match decodeLine w with
  | .error e => .error e
  | .ok i =>
    match i.event? with
    | some e => .ok e
    | none => .error .reservedLine

/-- Read a trace back from its codes; the first reserved code makes it no trace of this block (R73). -/
def decodeTrace : List LineWord → Except DecodeError (List Event)
  | [] => .ok []
  | w :: ws =>
    match decodeEvent w with
    | .error e => .error e
    | .ok e =>
      match decodeTrace ws with
      | .error e' => .error e'
      | .ok es => .ok (e :: es)

/-- The decoder's answer as an option. -/
def decode? (w : CodeWord) : Option Instr :=
  match decode w with
  | .ok i => some i
  | .error _ => none

/-- A table row's bits as a code word: a row of at most one byte is a LINE code of 5 bits, a longer one a REQ word of
10 bits (R63, R64); a number that needs more bits than the format has is no word of it. Log entry 19. -/
def tableWord? (nbits w : Nat) : Option CodeWord :=
  if nbits ≤ 8 then
    if w < 32 then some (.line (BitVec.ofNat 5 w)) else none
  else
    if w < 1024 then some (.req (BitVec.ofNat 10 w)) else none

/-- What the decoder reads from an opcode-table row's bits. -/
def decodeTableWord (nbits w : Nat) : Option Instr :=
  match tableWord? nbits w with
  | some c => decode? c
  | none => none

end Sys2Proof
end

