-- ==== Sys2Proof/Config.lean ====
section
/-! DEFINITION. What an implementation fixes: the spec's literals (R7, R12, D29), the parameters it leaves OPEN, and
the free values. An `opaque` constant has no body: nothing can be proved of its value. -/

namespace Sys2Proof

/-- T_SETTLE in microseconds (R11, R12). -/
def Config.tSettle : Nat := 100

/-- N_LINES (R9, R12). -/
def Config.nLines : Nat := 2

/-- BYTE_BITS (R10, R12). -/
def Config.byteBits : Nat := 8

/-- ACK_ACTIVE_LEVEL (R12): the receiver acknowledges by pulling DIO low. -/
def Config.ackActiveLevel : Level := .low

/-- N_DIGITS (R12). -/
def Config.nDigits : Nat := 4

/-- The set-data-mode command byte (R74). -/
def Config.cmdSetDataMode : Byte := 0x40#8

/-- The start-address command byte (R74). -/
def Config.cmdStartAddress : Byte := 0xC0#8

/-- The display-on command byte at brightness 0 (R74). -/
def Config.cmdDisplayOn : Byte := 0x88#8

/-- The display-off command byte (R74). -/
def Config.cmdDisplayOff : Byte := 0x80#8

/-- The bit of a segment byte that lights the decimal point: bit 7 (R75). -/
def Config.decimalPoint : Byte := 0x80#8

/-- The segment table (R76, R129). -/
def Config.seg : Digit → Byte
  | 0 => 0x3F#8
  | 1 => 0x06#8
  | 2 => 0x5B#8
  | 3 => 0x4F#8
  | 4 => 0x66#8
  | 5 => 0x6D#8
  | 6 => 0x7D#8
  | 7 => 0x07#8
  | 8 => 0x7F#8
  | 9 => 0x6F#8

/-- P_CLK_PIN, OPEN (R12, D19): no rule depends on it. -/
opaque Config.clkPin : Nat

/-- P_DIO_PIN, OPEN (R12, D19): no rule depends on it. -/
opaque Config.dioPin : Nat

/-- CFG_BRIGHTNESS, OPEN (R128, R167). -/
opaque Config.cfgBrightness : Nat

/-- CFG_DP, OPEN (R128, R167). -/
opaque Config.cfgDp : Nat

/-- CFG_ZB, OPEN (R128, R167). -/
opaque Config.cfgZb : Bool

/-- CFG_MAX_DIGITS, OPEN (R128, R167). -/
opaque Config.cfgMaxDigits : Nat

/-- The scheduler's free choice at turn n, taken where no choice is imposed (R83). Log entry 2. -/
opaque Config.freeAgent : Nat → Agent

/-- The receiver's free answer at draw n (R91: `v = draw()`). Log entry 3. -/
opaque Config.freeAnswer : Nat → Level

/-- The receiver's free drive of DIO at draw n, in an ACK window before its sample (R95). Log entry 4. -/
opaque Config.freeDrive : Nat → Dir

/-- What DATA reads as while it holds none (R20). Log entry 8. -/
opaque Config.unwrittenData : Byte

/-- The segment byte of position i of a buffer that nothing has written (R134; 95_test_vectors.md X9). Log entry 13. -/
opaque Config.unsetSegment : Fin 4 → Byte

end Sys2Proof
end

