-- ==== Sys2Proof/Machine/State.lean ====
section
/-! DEFINITION. The machine's state as plain data (10_state.md; 60_exceptions.md R155; 45_host_display.md R127, R128),
the state right after reset (R167), and the reasons a step can stop. -/

namespace Sys2Proof.Machine

/-- DIR, the line-direction register (R19). -/
structure Dirs where
  clk : Dir
  dio : Dir
deriving DecidableEq, Repr

/-- SEQ, the sequencer (R21): no request in progress, or request op about to perform its action k. -/
inductive Sequencer where
  | idle
  | run (op : Op) (k : Nat)
deriving DecidableEq, Repr

/-- The causes of the sticky fault bits (R14, R147). -/
inductive Cause where
  | illegalRequest
  | framing
  | configRange
  | unsetRead
deriving DecidableEq, Repr

/-- FAULT, one sticky bit per cause (R26). -/
structure FaultBits where
  illegalRequest : Bool
  framing : Bool
  configRange : Bool
  unsetRead : Bool
deriving DecidableEq, Repr

/-- The parameters of the step relation that change what the block does (R12, R111, R123). Log entry 7. -/
structure Params where
  /-- P_START_RELEASES_CLK. -/
  startReleasesClk : Bool
  /-- P_WB_TRAILING_WAIT. -/
  wbTrailingWait : Bool
deriving DecidableEq, Repr

/-- DisplayConfig (R128). A dp of 4 or more means no decimal point. -/
structure DisplayConfig where
  brightness : Nat
  dp : Nat
  zb : Bool
  maxDigits : Nat
deriving DecidableEq, Repr

/-- Everything the spec gives the machine: the block's record S (R18), pc and the program (R22), the receiver's drive
(R28), the tick flag (R155), the host's display state (R127, R128) and the inputs of the step relation (R12, R83, R91). -/
structure State where
  /-- DIR (R19). -/
  dirs : Dirs
  /-- SEQ (R21). -/
  seq : Sequencer
  /-- DATA (R20). -/
  data : Option Byte
  /-- ASMP (R23). -/
  asmp : Option Level
  /-- LAST_ACK (R24). -/
  lastAck : Option Bool
  /-- FRAME_OPEN (R25). -/
  frameOpen : Bool
  /-- FAULT (R26). -/
  faults : FaultBits
  /-- TRACE, oldest first (R29). -/
  trace : List Event
  /-- The host request counter (R22). -/
  pc : Nat
  /-- The host's request list, an input of the run (R18, R22). Log entry 1. -/
  program : List ReqWord
  /-- The receiver's drive of DIO at the latest master action (R28). Log entries 4 and 5. -/
  rxDio : Dir
  /-- The environment's tick flag (R155). -/
  tick : Bool
  /-- DisplayBuffer (R127): none until the first ExtractDigits. -/
  buffer : Option (Quad Digit)
  /-- DisplayConfig (R128). -/
  display : DisplayConfig
  /-- The parameters (R12). -/
  params : Params
  /-- The model's own: scheduler choices imposed from outside, next first; when empty the choice is free (R83). Log entry 2. -/
  sched : List Agent
  /-- The model's own: how many scheduler choices have been made. Log entry 2. -/
  turns : Nat
  /-- The model's own: receiver answers imposed from outside, next first; when empty the answer is free (R91). Log entry 3. -/
  answers : List Level
  /-- The model's own: how many master actions have drawn a receiver value. Log entry 3. -/
  draws : Nat
deriving DecidableEq, Repr

/-- DIR with both lines released: the idle bus (R168). -/
def Dirs.idleBus : Dirs :=
  ⟨.released, .released⟩

/-- No fault bit set (R26). -/
def FaultBits.none : FaultBits :=
  ⟨false, false, false, false⟩

/-- The parameters at the spec's values (R12). -/
def Params.spec : Params :=
  ⟨true, false⟩

/-- DisplayConfig at its OPEN parameters (R128, R167). -/
def DisplayConfig.initial : DisplayConfig :=
  ⟨Config.cfgBrightness, Config.cfgDp, Config.cfgZb, Config.cfgMaxDigits⟩

/-- The state right after reset (R167). No program is placed and nothing is imposed from outside. -/
def State.reset : State where
  dirs := Dirs.idleBus
  seq := .idle
  data := .none
  asmp := .none
  lastAck := .none
  frameOpen := false
  faults := FaultBits.none
  trace := []
  pc := 0
  program := []
  rxDio := .released
  tick := false
  buffer := .none
  display := DisplayConfig.initial
  params := Params.spec
  sched := []
  turns := 0
  answers := []
  draws := 0

/-- Why a step stops. Each stands outside every run from reset; the sticky fault bits of R26 are state, not these. -/
inductive Fault where
  /-- A request was presented while seq is not Idle: "The host has no move while seq is not Idle" (R34). Raised by the
  meanings of START, STOP and WRITE; never by a step. Safe: the model stops. -/
  | hostBusy
  /-- DIO was read while the master drives it: "No source defines a Read while the master drives DIO; this block never
  performs one" (R91). Raised by the meaning of RD DIO. Safe: the model stops. -/
  | readWhileDriven
  /-- SEQ holds an index past the end of its action list, which R21 excludes. Raised by the master step. Safe: the
  model stops. -/
  | sequencerOverrun
deriving DecidableEq, Repr

/-- Why an instruction is refused. -/
inductive Refusal where
  /-- The instruction has no meaning yet. Raised by a refused arm of exec only; no arm is refused. Safe. -/
  | notModelled (mnemonic : String)
deriving DecidableEq, Repr

end Sys2Proof.Machine
end

