-- ==== Sys2Proof/Machine/Ops.lean ====
section
/-! DEFINITION. The named operations over the state. There is no memory (R46): the registers of R19 to R29 are the only
storage. `raise` is the one shared operation of every fault the spec describes (R148); there is no trap entry and no
return from one (R157, R158). -/

namespace Sys2Proof.Machine

/-- Read a line's direction (R15: `dir[l]`). -/
def Dirs.get (d : Dirs) : Line → Dir
  | .clk => d.clk
  | .dio => d.dio

/-- Write a line's direction (R15: `dir[l] <- d`). -/
def Dirs.set (d : Dirs) (l : Line) (v : Dir) : Dirs :=
  match l with
  | .clk => { d with clk := v }
  | .dio => { d with dio := v }

/-- Read a fault bit (R26). -/
def FaultBits.get (f : FaultBits) : Cause → Bool
  | .illegalRequest => f.illegalRequest
  | .framing => f.framing
  | .configRange => f.configRange
  | .unsetRead => f.unsetRead

/-- Set a fault bit (R148). -/
def FaultBits.set (f : FaultBits) : Cause → FaultBits
  | .illegalRequest => { f with illegalRequest := true }
  | .framing => { f with framing := true }
  | .configRange => { f with configRange := true }
  | .unsetRead => { f with unsetRead := true }

/-- No fault bit is set (R148, R185). -/
def FaultBits.clear (f : FaultBits) : Bool :=
  !f.illegalRequest && !f.framing && !f.configRange && !f.unsetRead

/-- `dir[l] <- d` (R15, R19). -/
def State.setDir (s : State) (l : Line) (d : Dir) : State :=
  { s with dirs := s.dirs.set l d }

/-- `emit(e)`: append an event to the trace (R15, R29). -/
def State.emit (s : State) (e : Event) : State :=
  { s with trace := s.trace ++ [e] }

/-- `raise Fault(c)`: set the sticky bit and nothing else (R148). -/
def State.raise (s : State) (c : Cause) : State :=
  { s with faults := s.faults.set c }

/-- `raise Fault(c)` under a condition, as the checks of R85 and R130 write it. -/
def State.raiseIf (s : State) (b : Bool) (c : Cause) : State :=
  if b then s.raise c else s

/-- `pc <- pc + 1` (R22, R84). -/
def State.advancePc (s : State) : State :=
  { s with pc := s.pc + 1 }

/-- `seq <- q` (R21). -/
def State.setSeq (s : State) (q : Sequencer) : State :=
  { s with seq := q }

/-- `frame_open <- b` (R25). -/
def State.setFrameOpen (s : State) (b : Bool) : State :=
  { s with frameOpen := b }

/-- `data <- d; asmp <- none` (R84). -/
def State.latch (s : State) (d : Byte) : State :=
  { s with data := some d, asmp := none }

/-- `asmp <- some(v)` (R91). -/
def State.setAsmp (s : State) (v : Level) : State :=
  { s with asmp := some v }

/-- `last_ack <- some(b)` (R24). -/
def State.setLastAck (s : State) (b : Bool) : State :=
  { s with lastAck := some b }

/-- The receiver's drive of DIO is now d (R28). -/
def State.setRx (s : State) (d : Dir) : State :=
  { s with rxDio := d }

/-- `tick <- b` (R155). -/
def State.setTick (s : State) (b : Bool) : State :=
  { s with tick := b }

/-- The host appends request words to its program (R134: the words a procedure emits). -/
def State.issue (s : State) (ws : List ReqWord) : State :=
  { s with program := s.program ++ ws }

/-- Rewrite all four positions of DisplayBuffer (R127). -/
def State.setBuffer (s : State) (x : Quad Digit) : State :=
  { s with buffer := some x }

/-- The agent whose turn it is (R83): the imposed choice, else the free one. -/
def State.agent (s : State) : Agent :=
  match s.sched with
  | a :: _ => a
  | [] => Config.freeAgent s.turns

/-- The scheduler's choice has been taken (R83). -/
def State.takeTurn (s : State) : State :=
  { s with sched := s.sched.tail, turns := s.turns + 1 }

/-- The receiver's answer at the next read (R91: `v = draw()`): the imposed answer, else the free one. -/
def State.answer (s : State) : Level :=
  match s.answers with
  | v :: _ => v
  | [] => Config.freeAnswer s.draws

/-- A master action has drawn its receiver value: count it, and a read uses up an imposed answer (R91). -/
def State.takeDraw (s : State) (a : LineAction) : State :=
  { s with answers := if a = .rd then s.answers.tail else s.answers, draws := s.draws + 1 }

/-- The timer interrupt's step: it sets the tick flag and changes nothing of the block (R83, R155). -/
def State.timerInterrupt (s : State) : State :=
  s.setTick true

end Sys2Proof.Machine
end

