-- ==== Sys2Proof/Machine/Operands.lean ====
section
/-! DEFINITION. Operands: the bits of a WRITE's byte, and the action lists that the sequencer indexes (R100, R102,
R112). -/

namespace Sys2Proof.Machine

/-- `data[i] = (data >> i) & 1` (R125). -/
def dataBit (d : Byte) (i : Nat) : Bool :=
  d.getLsbD i

/-- DATA as the bit slots read it (R20, R114). While it holds none, which no run reaches, its bits are free. -/
def State.dataByte (s : State) : Byte :=
  s.data.getD Config.unwrittenData

/-- The receiver acknowledged: `asmp == some(0)` (R24, R112). -/
def acknowledged (asmp : Option Level) : Bool :=
  asmp == some Config.ackActiveLevel

/-- Setting DIO to a bit: released for 1, driven low for 0 (R112, R114). -/
def bitAction (b : Bool) : LineAction :=
  if b then .rel .dio else .drv .dio

/-- Bit slot i (R112, R114): actions 6i to 6i + 5. -/
def bitSlot (d : Byte) (i : Nat) : List LineAction :=
  [.drv .clk, .wait, bitAction (dataBit d i), .wait, .rel .clk, .wait]

/-- The acknowledgment slot (R112, R117): the DRV DIO only if acknowledged, the last WAIT only with
P_WB_TRAILING_WAIT (R123). -/
def ackSlot (acked trailing : Bool) : List LineAction :=
  [.drv .clk, .rel .dio, .wait, .rel .clk, .wait, .rd]
    ++ (if acked then [.drv .dio] else [])
    ++ [.wait, .drv .clk]
    ++ (if trailing then [.wait] else [])

/-- The START action list (R100, R111). -/
def startActions (p : Params) : List LineAction :=
  if p.startReleasesClk then [.rel .clk, .drv .dio, .wait] else [.drv .dio, .wait]

/-- The STOP action list (R102). -/
def stopActions : List LineAction :=
  [.drv .dio, .wait, .rel .clk, .wait, .rel .dio, .wait]

/-- The WRITE action list: eight bit slots, bit 0 first, then the acknowledgment slot (R48, R112). -/
def writeActions (p : Params) (d : Byte) (asmp : Option Level) : List LineAction :=
  (bitSlot d 0 ++ bitSlot d 1 ++ bitSlot d 2 ++ bitSlot d 3 ++ bitSlot d 4 ++ bitSlot d 5 ++ bitSlot d 6 ++ bitSlot d 7)
    ++ ackSlot (acknowledged asmp) p.wbTrailingWait

/-- The action list of an operation (R21, R86). -/
def actionList (p : Params) (op : Op) (d : Byte) (asmp : Option Level) : List LineAction :=
  match op with
  | .start => startActions p
  | .stop => stopActions
  | .write => writeActions p d asmp

/-- The action list of the operation in progress, as the state's registers give it now (R86). -/
def State.actions (s : State) (op : Op) : List LineAction :=
  actionList s.params op s.dataByte s.asmp

/-- The index of a WRITE's final DRV CLK (R112): 56 if acknowledged, 55 otherwise. -/
def finalDrvClk (asmp : Option Level) : Nat :=
  if acknowledged asmp then 56 else 55

/-- The drive of DIO that a sample shows, DIO being released by the master (R91, R116). -/
def driveOf : Level → Dir
  | .low => .driven
  | .high => .released

/-- What the spec fixes of the receiver's drive of DIO at action k of op, the sample being asmp and the level drawn v
(R28, R118); none where the drive is the receiver's choice (R95). Outside the ACK window it is released. Inside it: a
choice before the sample; at the sample the drive that v shows; after a sample of 0 held low to the final DRV CLK; after a
sample of 1 a choice again, until the final DRV CLK, at which R120 has DIO high. Log entry 4. -/
def receiverFixed (op : Op) (k : Nat) (asmp : Option Level) (v : Level) : Option Dir :=
  match op with
  | .start => some .released
  | .stop => some .released
  | .write =>
    if k ≤ 48 then some .released
    else if k < 53 then none
    else if k = 53 then some (driveOf v)
    else if finalDrvClk asmp < k then some .released
    else if acknowledged asmp then some .driven
    else if k = finalDrvClk asmp then some .released
    else none

/-- The receiver's drive of DIO at action k of op: what is fixed of it, else the receiver's choice (R28, R95, R118). -/
def receiverDrive (op : Op) (k : Nat) (asmp : Option Level) (v : Level) (free : Dir) : Dir :=
  (receiverFixed op k asmp v).getD free

/-- A master action is performed inside the ACK window (R17, R118): after action 48, up to the final DRV CLK. -/
def inAckWindow (op : Op) (k : Nat) (asmp : Option Level) : Bool :=
  op == .write && decide (48 < k) && decide (k ≤ finalDrvClk asmp)

end Sys2Proof.Machine
end

