-- ==== Sys2Proof/Machine/Flags.lean ====
section
/-! DEFINITION. The one condition flag (R31), the framing check, and the views that pack state into words. -/

namespace Sys2Proof.Machine

/-- WRITE completion: `last_ack <- some(asmp == some(0))` (R24, R86, R119). -/
def State.recordAck (s : State) : State :=
  s.setLastAck (acknowledged s.asmp)

/-- A request of op is out of frame order (R85): a START inside a frame, a STOP or a WRITE outside one. -/
def misframed (op : Op) (frameOpen : Bool) : Bool :=
  match op with
  | .start => frameOpen
  | .stop => !frameOpen
  | .write => !frameOpen

/-- `framing_check(op)` (R85). -/
def State.framingCheck (s : State) (op : Op) : State :=
  s.raiseIf (misframed op s.frameOpen) .framing

/-- The bit of DIR for a direction: 1 is released (R19). -/
def dirBit : Dir → Bool
  | .driven => false
  | .released => true

/-- DIR as its 2-bit register: bit 0 CLK, bit 1 DIO (R19). -/
def State.dirReg (s : State) : BitVec 2 :=
  BitVec.ofBool (dirBit s.dirs.dio) ++ BitVec.ofBool (dirBit s.dirs.clk)

/-- A request is in progress (R30: BUSY). -/
def State.busy (s : State) : Bool :=
  s.seq != .idle

/-- STAT, the 8-bit observation view (R30), bit 7 first here. -/
def State.stat (s : State) : BitVec 8 :=
  BitVec.ofBool s.faults.unsetRead ++ BitVec.ofBool s.faults.configRange
    ++ BitVec.ofBool s.faults.framing ++ BitVec.ofBool s.faults.illegalRequest
    ++ BitVec.ofBool (s.lastAck == some true) ++ BitVec.ofBool s.lastAck.isSome
    ++ BitVec.ofBool s.frameOpen ++ BitVec.ofBool s.busy

end Sys2Proof.Machine
end

