-- ==== Sys2Proof/Machine/Framing.lean ====
section
/-! DEFINITION. The framing requests START and STOP (41_framing.md R101, R103): their acceptance (R84). The action lists
they start are in Operands.lean. -/

namespace Sys2Proof.Machine

/-- Acceptance of a request of op (R84): pc advances, the framing check is made, and the sequencer starts op's list.
The host has no move while seq is not Idle (R34). -/
def acceptRequest (op : Op) (update : State → State) (s : State) : Host.Outcome State Fault Refusal :=
  match s.seq with
  | .idle => .next ((update (s.advancePc.framingCheck op)).setSeq (.run op 0))
  | .run _ _ => .fault .hostBusy

/-- START (R84, R101): `frame_open <- true; seq <- Run(START, 0)`. -/
def execStart (s : State) : Host.Outcome State Fault Refusal :=
  acceptRequest .start (fun t => t.setFrameOpen true) s

/-- STOP (R84, R103): `frame_open <- false; seq <- Run(STOP, 0)`. -/
def execStop (s : State) : Host.Outcome State Fault Refusal :=
  acceptRequest .stop (fun t => t.setFrameOpen false) s

end Sys2Proof.Machine
end

