-- ==== Sys2Proof/Machine/ByteTransfer.lean ====
section
/-! DEFINITION. The request WRITE (42_byte_transfer.md R113): its acceptance (R84). -/

namespace Sys2Proof.Machine

/-- WRITE imm8 (R84, R113): `data <- imm8; asmp <- none; seq <- Run(WRITE, 0)`. -/
def execWrite (d : Byte) (s : State) : Host.Outcome State Fault Refusal :=
  acceptRequest .write (fun t => t.latch d) s

end Sys2Proof.Machine
end

