-- ==== Sys2Proof/Machine/LineActions.lean ====
section
/-! DEFINITION. The line primitives (40_sequencer_and_line_actions.md R89 to R92): the capability interface DriveLow,
Release, Read and the wait (R37). -/

namespace Sys2Proof.Machine

/-- DriveLow(l): `dir[l] <- DRIVEN; emit(DRV l)` (R89). -/
def State.driveLow (s : State) (l : Line) : State :=
  (s.setDir l .driven).emit (.drv l)

/-- Release(l): `dir[l] <- RELEASED; emit(REL l)` (R90). -/
def State.release (s : State) (l : Line) : State :=
  (s.setDir l .released).emit (.rel l)

/-- DRV CLK (R89). -/
def execDrvClk (s : State) : Host.Outcome State Fault Refusal :=
  .next (s.driveLow .clk)

/-- DRV DIO (R89). -/
def execDrvDio (s : State) : Host.Outcome State Fault Refusal :=
  .next (s.driveLow .dio)

/-- REL CLK (R90). -/
def execRelClk (s : State) : Host.Outcome State Fault Refusal :=
  .next (s.release .clk)

/-- REL DIO (R90). -/
def execRelDio (s : State) : Host.Outcome State Fault Refusal :=
  .next (s.release .dio)

/-- RD DIO with the drawn level v: `asmp <- some(v); emit(RD DIO v)` (R91). A read while the master drives DIO is
defined by no source and never performed (R91). -/
def execRdDio (v : Level) (s : State) : Host.Outcome State Fault Refusal :=
  match s.dirs.dio with
  | .released => .next ((s.setAsmp v).emit (.rd v))
  | .driven => .fault .readWhileDriven

/-- WAIT: `emit(WAIT)`, no state but the trace changes (R92). -/
def execWait (s : State) : Host.Outcome State Fault Refusal :=
  .next (s.emit .wait)

end Sys2Proof.Machine
end

