-- ==== Sys2Proof/Machine/Dispatch.lean ====
section
/-! DEFINITION. The meaning of each instruction, one arm per constructor. -/

namespace Sys2Proof.Machine

def exec (i : Instr) (s : State) : Host.Outcome State Fault Refusal :=
  match i with
  | .start => Sys2Proof.Machine.execStart s
  | .stop => Sys2Proof.Machine.execStop s
  | .write d => Sys2Proof.Machine.execWrite d s
  | .drvClk => Sys2Proof.Machine.execDrvClk s
  | .drvDio => Sys2Proof.Machine.execDrvDio s
  | .relClk => Sys2Proof.Machine.execRelClk s
  | .relDio => Sys2Proof.Machine.execRelDio s
  | .rdDio v => Sys2Proof.Machine.execRdDio v s
  | .wait => Sys2Proof.Machine.execWait s

end Sys2Proof.Machine
end

