-- ==== Sys2Proof/Machine/Sequencer.lean ====
section
/-! DEFINITION. The step relation's parts (40_sequencer_and_line_actions.md R83 to R86): the host's acceptance, the
master action, the end of a run (R185), the timer interrupt, and where a table row's word is placed to run next. -/

namespace Sys2Proof.Machine

/-- Fetch (R84: `req = program[pc]`); none when the program is at its end. -/
def State.fetch (s : State) : Option ReqWord :=
  s.program[s.pc]?

/-- A reserved word is refused (R84, R149): pc advances, ILLEGAL_REQUEST is set, and nothing else changes. -/
def State.refuseWord (s : State) : State :=
  s.advancePc.raise .illegalRequest

/-- `accept()` (R84): decode the word and run the request's meaning, or refuse the word. -/
def accept (w : ReqWord) (s : State) : Host.Outcome State Fault Refusal :=
  match decode (.req w) with
  | .ok i => exec i s
  | .error _ => .next s.refuseWord

/-- The end of a run (R185): a frame left open raises FRAMING; nothing else changes. Log entry 6. -/
def State.endRun (s : State) : State :=
  s.raiseIf s.frameOpen .framing

/-- After action k of op has been performed (R86): the next index, or completion, at which a WRITE records its result. -/
def State.advanceSeq (s : State) (op : Op) (k : Nat) : State :=
  if k + 1 = (s.actions op).length then
    (if op = .write then s.recordAck else s).setSeq .idle
  else s.setSeq (.run op (k + 1))

/-- The receiver as it is at action k of op, the action about to be performed (R28, R118), and the draw counted. -/
def State.meetReceiver (s : State) (op : Op) (k : Nat) (a : LineAction) : State :=
  (s.setRx (receiverDrive op k s.asmp s.answer (Config.freeDrive s.draws))).takeDraw a

/-- Run f on a next state; pass a stop on. -/
def andThen (o : Host.Outcome State Fault Refusal) (f : State → State) : Host.Outcome State Fault Refusal :=
  match o with
  | .next s => .next (f s)
  | .fault r => .fault r
  | .refused r => .refused r

/-- The master action step (R86): perform action k of op's list, then advance the sequencer. -/
def masterStep (op : Op) (k : Nat) (s : State) : Host.Outcome State Fault Refusal :=
  match (s.actions op)[k]? with
  | some a => andThen (exec (a.instr s.answer) (s.meetReceiver op k a)) (fun t => t.advanceSeq op k)
  | none => .fault .sequencerOverrun

/-- The thread's step (R83): the master action while a request is in progress, else the host's acceptance, else the
end of the run. -/
def threadStep (s : State) : Host.Outcome State Fault Refusal :=
  match s.seq with
  | .run op k => masterStep op k s
  | .idle =>
    match s.fetch with
    | some w => accept w s
    | none => .next s.endRun

/-- The step an agent takes (R83). -/
def agentStep (a : Agent) (s : State) : Host.Outcome State Fault Refusal :=
  match a with
  | .thread => threadStep s
  | .timer => .next s.timerInterrupt

/-- Place a request word where the next acceptance fetches it, the sequencer Idle, and the next turn the thread's. -/
def State.placeReq (s : State) (w : ReqWord) : State :=
  { s with
    program := s.program.take s.pc ++ w :: s.program.drop (s.pc + 1)
    pc := (s.program.take s.pc).length
    seq := .idle
    sched := [.thread] }

/-- Place a line action as the sequencer's next (R100, R102, R112): the position of a list that performs it, the answer
a read returns, DIO released for it, and the next turn the thread's. A request is no line action. -/
def State.placeLine (s : State) (i : Instr) : State :=
  match i with
  | .start => s
  | .stop => s
  | .write _ => s
  | .drvClk => { s with seq := .run .write 0, sched := [.thread] }
  | .drvDio => { s with seq := .run .stop 0, sched := [.thread] }
  | .relClk => { s with seq := .run .stop 2, sched := [.thread] }
  | .relDio => { s with seq := .run .stop 4, sched := [.thread] }
  | .rdDio v =>
    { s with
      seq := .run .write 53
      sched := [.thread]
      answers := v :: s.answers
      dirs := s.dirs.set .dio .released }
  | .wait => { s with seq := .run .stop 1, sched := [.thread] }

/-- Place an opcode-table row's word (log entries 1 and 19): a request word in the program, a line code as the
sequencer's next action. A reserved line code stands nowhere in the machine, so nothing is placed. -/
def State.placeTableWord (s : State) (nbits w : Nat) : State :=
  match tableWord? nbits w with
  | some (.req r) => s.placeReq r
  | some (.line l) =>
    match decodeLine l with
    | .ok i => s.placeLine i
    | .error _ => s
  | none => s

end Sys2Proof.Machine
end

