-- ==== Sys2Proof/Machine/Step.lean ====
section
/-! DEFINITION. One step (R83): the scheduler's choice is taken, and the chosen agent steps. -/

namespace Sys2Proof.Machine

/-- One step of a run (R83). -/
def step (s : State) : Host.Outcome State Fault Refusal :=
  agentStep s.agent s.takeTurn

/-- The state with an opcode-table row's word placed so that the very next step runs it (log entry 1). -/
def State.withFetchWord (s : State) (nbits w : Nat) : State :=
  s.placeTableWord nbits w

end Sys2Proof.Machine
end

