-- ==== Sys2Proof/Machine/HostDisplay.lean ====
section
/-! DEFINITION. The host's display procedures (45_host_display.md R127 to R145): software outside the block that writes
DisplayBuffer, raises CONFIG_RANGE and UNSET_READ, and issues request words. Log entry 12. -/

namespace Sys2Proof.Machine

/-- FRAME b1, …, bn (R80): START, the WRITEs, STOP. -/
def frameInstrs (bytes : List Byte) : List Instr :=
  .start :: bytes.map .write ++ [.stop]

/-- The request words of a list of requests (R66, R78). -/
def reqWords (is : List Instr) : List ReqWord :=
  is.filterMap Instr.reqWord?

/-- The words of FRAME b1, …, bn (R80). -/
def frameWords (bytes : List Byte) : List ReqWord :=
  reqWords (frameInstrs bytes)

/-- brightness and max_digits are in range (R130). -/
def DisplayConfig.inRange (c : DisplayConfig) : Bool :=
  decide (c.brightness ≤ 7) && decide (1 ≤ c.maxDigits) && decide (c.maxDigits ≤ 4)

/-- `check_config()` (R130): mark an out-of-range configuration and continue. -/
def State.checkConfig (s : State) : State :=
  s.raiseIf (!s.display.inRange) .configRange

/-- A number's last decimal digit. -/
def lastDigit (v : Nat) : Digit :=
  ⟨v % 10, Nat.mod_lt v (by decide)⟩

/-- The digits ExtractDigits writes (R131): rightmost first, four of them, what is left over dropped. -/
def extractedDigits (value : Nat) : Quad Digit :=
  let v3 := value
  let v2 := v3 / 10
  let v1 := v2 / 10
  let v0 := v1 / 10
  ⟨lastDigit v0, lastDigit v1, lastDigit v2, lastDigit v3⟩

/-- ExtractDigits(value), value an unsigned 16-bit number (R131, R141). -/
def State.extractDigits (s : State) (value : BitVec 16) : State :=
  s.setBuffer (extractedDigits value.toNat)

/-- One turn of RoundDigits' carry loop (R132): the digit and the carry to its left neighbour. -/
def carryInto (carry : Bool) (d : Digit) : Digit × Bool :=
  if carry then
    if d = 9 then (0, true) else (d + 1, false)
  else (d, false)

/-- RoundDigits on four digits (R132): a rightmost digit above 5 carries left, it is zeroed in any case, and a carry out
of position 0 is dropped. -/
def roundedDigits (x : Quad Digit) : Quad Digit :=
  let c2 := carryInto (decide (5 < x.p3.val)) x.p2
  let c1 := carryInto c2.2 x.p1
  let c0 := carryInto c1.2 x.p0
  ⟨c0.1, c1.1, c2.1, 0⟩

/-- RoundDigits() (R132). A buffer that nothing has written has no digits to round: UNSET_READ (R152). -/
def State.roundDigits (s : State) : State :=
  match s.buffer with
  | some x => s.setBuffer (roundedDigits x)
  | none => s.raise .unsetRead

/-- Position i of compose (R133): its segment byte, and whether leading-zero blanking has stopped after it. -/
def composeAt (c : DisplayConfig) (i : Nat) (d : Digit) (stop : Bool) : Byte × Bool :=
  let r : Byte × Bool :=
    if i = c.dp then (Config.seg d ||| Config.decimalPoint, stop || decide (d ≠ 0))
    else if !c.zb && decide (d = 0) && decide (i ≠ 3) && !stop then (0#8, stop)
    else (Config.seg d, true)
  (if c.maxDigits ≤ i then 0#8 else r.1, r.2)

/-- `compose()` (R133): the four segment bytes. -/
def compose (c : DisplayConfig) (x : Quad Digit) : Quad Byte :=
  let r0 := composeAt c 0 x.p0 false
  let r1 := composeAt c 1 x.p1 r0.2
  let r2 := composeAt c 2 x.p2 r1.2
  let r3 := composeAt c 3 x.p3 r2.2
  ⟨r0.1, r1.1, r2.1, r3.1⟩

/-- The segment bytes of the state's buffer; free while the buffer is unset (R134; X9). Log entry 13. -/
def State.segments (s : State) : Quad Byte :=
  match s.buffer with
  | some x => compose s.display x
  | none => ⟨Config.unsetSegment 0, Config.unsetSegment 1, Config.unsetSegment 2, Config.unsetSegment 3⟩

/-- The display-on byte: `(0x88 + brightness) mod 256` (R74, R130). -/
def displayOnByte (brightness : Nat) : Byte :=
  BitVec.ofNat 8 (Config.cmdDisplayOn.toNat + brightness)

/-- RenderFrame() (R134): check the configuration, mark an unset buffer, and issue the three frames. -/
def State.renderFrame (s : State) : State :=
  let s1 := s.checkConfig
  let s2 := s1.raiseIf s1.buffer.isNone .unsetRead
  let b := s2.segments
  s2.issue
    (frameWords [Config.cmdSetDataMode]
      ++ frameWords [Config.cmdStartAddress, b.p0, b.p1, b.p2, b.p3]
      ++ frameWords [displayOnByte s2.display.brightness])

/-- SetDisplayPower(on) (R135). -/
def State.setDisplayPower (s : State) (on : Bool) : State :=
  let s1 := s.checkConfig
  s1.issue (frameWords [if on then displayOnByte s1.display.brightness else Config.cmdDisplayOff])

/-- UpdateDisplay(value) (R136). -/
def State.updateDisplay (s : State) (value : BitVec 16) : State :=
  let s1 := s.extractDigits value
  let s2 := if s1.display.maxDigits < 4 then s1.roundDigits else s1
  s2.renderFrame

end Sys2Proof.Machine
end

