-- ==== Sys2Proof/WellFormed.lean ====
section
/-! DEFINITION. The checks on what is written down. The types carry the rest: a WRITE's operand is a byte, a read's
level a level, so every Instr is well formed in its own format and in no other. -/

namespace Sys2Proof

/-- An instruction stands only where its format is carried: requests on the request port, line actions in the trace
(R63, R64). -/
def Instr.wellFormedIn (f : Format) (i : Instr) : Bool :=
  i.format == f

/-- An imm8 is in 0..255 (R79). -/
def isImm8 (n : Nat) : Bool :=
  n ≤ 255

/-- What the assembler accepts: every byte in 0..255 (R79) and a DISPON brightness in 0..7 (R80). -/
def AsmLine.wellFormed : AsmLine → Bool
  | .start => true
  | .stop => true
  | .write imm => isImm8 imm
  | .frame bytes => bytes.all isImm8
  | .setMode => true
  | .setDigits s0 s1 s2 s3 => isImm8 s0 && isImm8 s1 && isImm8 s2 && isImm8 s3
  | .dispOn b => b ≤ 7
  | .dispOff => true

end Sys2Proof
end

