-- ==== Sys2Proof/Machine/Assembler.lean ====
section
/-! DEFINITION. The assembler of request programs (R79, R80) and the spelling of a trace (R82). -/

namespace Sys2Proof.Machine

/-- Why the assembler rejects a line. -/
inductive AsmError where
  /-- A byte outside 0..255 (R79). -/
  | immRange
  /-- DISPON with a brightness above 7 (R80: CONFIG_RANGE). -/
  | configRange
  /-- Not a line of R79 or R80. -/
  | malformed
deriving DecidableEq, Repr

/-- A number as a byte, or its rejection (R79). -/
def asmByte (n : Nat) : Except AsmError Byte :=
  if isImm8 n then .ok (BitVec.ofNat 8 n) else .error .immRange

/-- A list of numbers as bytes, or the first rejection. -/
def asmBytes : List Nat → Except AsmError (List Byte)
  | [] => .ok []
  | n :: ns =>
    match asmByte n, asmBytes ns with
    | .ok b, .ok bs => .ok (b :: bs)
    | .error e, _ => .error e
    | .ok _, .error e => .error e

/-- The requests of FRAME after some leading command bytes (R80). -/
def asmFrame (lead : List Byte) (ns : List Nat) : Except AsmError (List Instr) :=
  match asmBytes ns with
  | .ok bs => .ok (frameInstrs (lead ++ bs))
  | .error e => .error e

/-- A line's requests: itself, or a pseudo-instruction's expansion (R79, R80). -/
def expand : AsmLine → Except AsmError (List Instr)
  | .start => .ok [.start]
  | .stop => .ok [.stop]
  | .write imm =>
    match asmByte imm with
    | .ok b => .ok [.write b]
    | .error e => .error e
  | .frame bytes => asmFrame [] bytes
  | .setMode => asmFrame [Config.cmdSetDataMode] []
  | .setDigits s0 s1 s2 s3 => asmFrame [Config.cmdStartAddress] [s0, s1, s2, s3]
  | .dispOn b => if b ≤ 7 then asmFrame [displayOnByte b] [] else .error .configRange
  | .dispOff => asmFrame [Config.cmdDisplayOff] []

/-- A line's request words. -/
def assemble (l : AsmLine) : Except AsmError (List ReqWord) :=
  match expand l with
  | .ok is => .ok (reqWords is)
  | .error e => .error e

/-- White space inside a line. -/
def isBlank (c : Char) : Bool :=
  c == ' ' || c == '\t'

/-- A text without its leading and trailing white space. -/
def trimText (cs : List Char) : List Char :=
  ((cs.dropWhile isBlank).reverse.dropWhile isBlank).reverse

/-- A text cut at its commas. -/
def splitCommas : List Char → List (List Char)
  | [] => [[]]
  | c :: cs =>
    if c == ',' then [] :: splitCommas cs
    else
      match splitCommas cs with
      | [] => [[c]]
      | t :: ts => (c :: t) :: ts

/-- A digit's value in a base of at most 16. -/
def digitValue (base : Nat) (c : Char) : Option Nat :=
  let n := c.toNat
  let v :=
    if 48 ≤ n ∧ n ≤ 57 then n - 48
    else if 65 ≤ n ∧ n ≤ 70 then n - 55
    else if 97 ≤ n ∧ n ≤ 102 then n - 87
    else 16
  if v < base then some v else none

/-- The value of a digit string read after an accumulated value. -/
def digitsValue (base : Nat) : Nat → List Char → Option Nat
  | acc, [] => some acc
  | acc, c :: cs =>
    match digitValue base c with
    | some v => digitsValue base (acc * base + v) cs
    | none => none

/-- A number, written 0xNN or decimal (R79). -/
def parseNumber : List Char → Option Nat
  | [] => none
  | ['0'] => some 0
  | '0' :: 'x' :: d :: ds => digitsValue 16 0 (d :: ds)
  | d :: ds => digitsValue 10 0 (d :: ds)

/-- A list of numbers, none unreadable. -/
def parseNumbers : List (List Char) → Option (List Nat)
  | [] => some []
  | t :: ts =>
    match parseNumber (trimText t), parseNumbers ts with
    | some n, some ns => some (n :: ns)
    | none, _ => none
    | some _, none => none

/-- The operands of a line: numbers between commas, or none at all (R80). -/
def parseOperands (cs : List Char) : Option (List Nat) :=
  if (trimText cs).isEmpty then some [] else parseNumbers (splitCommas cs)

/-- The mnemonics of R79 and R80. -/
inductive Mnemonic where
  | start
  | stop
  | write
  | frame
  | setMode
  | setDigits
  | dispOn
  | dispOff
deriving DecidableEq, Repr

/-- A mnemonic's spelling in capitals (R79, R80). -/
def Mnemonic.spelling : Mnemonic → List Char
  | .start => ['S', 'T', 'A', 'R', 'T']
  | .stop => ['S', 'T', 'O', 'P']
  | .write => ['W', 'R', 'I', 'T', 'E']
  | .frame => ['F', 'R', 'A', 'M', 'E']
  | .setMode => ['S', 'E', 'T', 'M', 'O', 'D', 'E']
  | .setDigits => ['S', 'E', 'T', 'D', 'I', 'G', 'I', 'T', 'S']
  | .dispOn => ['D', 'I', 'S', 'P', 'O', 'N']
  | .dispOff => ['D', 'I', 'S', 'P', 'O', 'F', 'F']

/-- The mnemonic a word spells; capitals do not matter (R79). -/
def parseMnemonic (word : List Char) : Option Mnemonic :=
  [Mnemonic.start, .stop, .write, .frame, .setMode, .setDigits, .dispOn, .dispOff].find?
    fun m => m.spelling == word.map Char.toUpper

/-- A mnemonic with its operands, if it takes so many (R79, R80). -/
def asmLineOf : Mnemonic → List Nat → Option AsmLine
  | .start, [] => some .start
  | .stop, [] => some .stop
  | .write, [n] => some (.write n)
  | .frame, ns => some (.frame ns)
  | .setMode, [] => some .setMode
  | .setDigits, [a, b, c, d] => some (.setDigits a b c d)
  | .dispOn, [b] => some (.dispOn b)
  | .dispOff, [] => some .dispOff
  | _, _ => none

/-- A line of text (R79): a `;` starts a comment, and a line with nothing else holds no request. -/
def parseLine (text : List Char) : Except AsmError (Option AsmLine) :=
  let body := trimText (text.takeWhile (· != ';'))
  if body.isEmpty then .ok none
  else
    let word := body.takeWhile (fun c => !isBlank c)
    let rest := body.dropWhile (fun c => !isBlank c)
    match parseMnemonic word, parseOperands rest with
    | some m, some ns =>
      match asmLineOf m ns with
      | some l => .ok (some l)
      | none => .error .malformed
    | _, _ => .error .malformed

/-- A program's request words from its lines, or the first rejection (R79). -/
def assembleText : List (List Char) → Except AsmError (List ReqWord)
  | [] => .ok []
  | t :: ts =>
    match parseLine t with
    | .error e => .error e
    | .ok none => assembleText ts
    | .ok (some l) =>
      match assemble l, assembleText ts with
      | .ok ws, .ok wss => .ok (ws ++ wss)
      | .error e, _ => .error e
      | .ok _, .error e => .error e

/-- An event as R82 writes it. -/
def eventText : Event → String
  | .drv .clk => "DRV CLK"
  | .drv .dio => "DRV DIO"
  | .rel .clk => "REL CLK"
  | .rel .dio => "REL DIO"
  | .rd .low => "RD DIO 0"
  | .rd .high => "RD DIO 1"
  | .wait => "WAIT"

/-- A trace as R82 writes it, one event a line. -/
def disassemble (tr : List Event) : List String :=
  tr.map eventText

end Sys2Proof.Machine
end

