-- ==== Sys2Proof/Machine/Observe.lean ====
section
/-! DEFINITION. What is observed of a run (R29, R35, R185), and what the host does outside requests: demand the
acknowledgment (R24, R152) and read the tick flag (R155). -/

namespace Sys2Proof.Machine

/-- The result of each WRITE in order (R35, R185): true for each sample of 0. A WRITE performs exactly one read. -/
def writeResults (tr : List Event) : List Bool :=
  tr.filterMap fun e =>
    match e with
    | .rd v => some (acknowledged (some v))
    | .drv _ => none
    | .rel _ => none
    | .wait => none

/-- The run has ended (R22, R185): seq is Idle and pc is the program's length. -/
def State.atEnd (s : State) : Bool :=
  s.seq == .idle && s.pc == s.program.length

/-- The end state is final (R148, R185): the run has ended, and no fault bit is set once an open frame has been marked. -/
def State.final (s : State) : Bool :=
  s.atEnd && s.endRun.faults.clear

/-- The observation of a run (R185). -/
structure Observation where
  trace : List Event
  dirs : Dirs
  lastAck : Option Bool
  results : List Bool
deriving DecidableEq, Repr

/-- The observation of a state (R185): last_ack is reported as an Option, which is no read of its value (C13). -/
def State.observe (s : State) : Observation :=
  ⟨s.trace, s.dirs, s.lastAck, writeResults s.trace⟩

/-- Demand last_ack's Bool value (R24, R152): while it is none there is no value and UNSET_READ is raised. -/
def State.demandAck (s : State) : Option Bool × State :=
  match s.lastAck with
  | some b => (some b, s)
  | none => (none, s.raise .unsetRead)

/-- The main loop reads the tick flag (R155). -/
def State.readTick (s : State) : Bool :=
  s.tick

/-- The main loop clears the tick flag (R155). -/
def State.clearTick (s : State) : State :=
  s.setTick false

/-- The main loop's poll with no interrupt in between: read, then clear (R155). Log entry 18. -/
def State.pollTick (s : State) : Bool × State :=
  (s.readTick, s.clearTick)

/-- Let a list of agents step one after the other (R83), stopping at the first stop. -/
def runAgents : List Agent → State → Host.Outcome State Fault Refusal
  | [], s => .next s
  | a :: as, s =>
    match agentStep a s with
    | .next s' => runAgents as s'
    | .fault r => .fault r
    | .refused r => .refused r

/-- The thread's next n steps, the timer silent. -/
def runThread (n : Nat) (s : State) : Host.Outcome State Fault Refusal :=
  runAgents (List.replicate n .thread) s

end Sys2Proof.Machine
end

