-- ==== Sys2Proof/Machine/Execution.lean ====
section
/-! DEFINITION. Infinite executions, what is enabled in a state, and weak fairness (R83, R186). An execution is no part of
State: it is what a statement about all schedules speaks of. -/

namespace Sys2Proof.Machine

/-- The host's acceptance is enabled (R83, R84). -/
def State.hostEnabled (s : State) : Bool :=
  s.seq == .idle && decide (s.pc < s.program.length)

/-- The master's action is enabled (R83, R86). -/
def State.masterEnabled (s : State) : Bool :=
  s.busy

/-- At each moment the scheduled agent steps, and its step answers the next state (R83). -/
def Execution (a : Nat → Agent) (σ : Nat → State) : Prop :=
  ∀ n, agentStep (a n) (σ n) = .next (σ (n + 1))

/-- A step that is enabled from some moment on is eventually taken: the host's acceptance and the master's action, both
steps of the thread (R186). -/
def WeaklyFair (a : Nat → Agent) (σ : Nat → State) : Prop :=
  ∀ n,
    ((∀ m, n ≤ m → (σ m).hostEnabled = true) → ∃ m, n ≤ m ∧ a m = .thread ∧ (σ m).hostEnabled = true) ∧
    ((∀ m, n ≤ m → (σ m).masterEnabled = true) → ∃ m, n ≤ m ∧ a m = .thread ∧ (σ m).masterEnabled = true)

/-- How many of the first n steps are the thread's: the steps besides those of the interrupt (R186). -/
def threadSteps (a : Nat → Agent) (n : Nat) : Nat :=
  ((List.range n).map a).count .thread

end Sys2Proof.Machine
end

