-- ==== Sys2Proof/Machine/Timing.lean ====
section
/-! DEFINITION. The timing relation of a trace (R180) and the minimum durations that follow from its WAITs (R184). The
trace itself records no times (R29). -/

namespace Sys2Proof.Machine

/-- The times t (in microseconds) at which the actions of a trace take effect are allowed (R180): they never go back,
and the actions before and after a WAIT are at least T_SETTLE apart. No upper bound. Log entry 16. -/
def Timed (tr : List Event) (t : Nat → Rat) : Prop :=
  (∀ j, j + 1 < tr.length → t j ≤ t (j + 1)) ∧
  (∀ j, j + 2 < tr.length → tr[j + 1]? = some .wait → (Config.tSettle : Rat) ≤ t (j + 2) - t j)

/-- How many WAITs a trace holds (R126, R184). -/
def waits (tr : List Event) : Nat :=
  tr.count .wait

/-- The minimum duration in microseconds, counting WAITs only (R184). -/
def minDuration (tr : List Event) : Nat :=
  Config.tSettle * waits tr

/-- No two WAITs stand side by side, as in every trace of the block. -/
def waitsApart (tr : List Event) : Prop :=
  ∀ j, tr[j]? = some .wait → tr[j + 1]? ≠ some .wait

end Sys2Proof.Machine
end

