-- ==== Sys2Proof/Machine/Wire.lean ====
section
/-! DEFINITION. What stands on the two wires: levels (R27), edges (R94), and start and stop conditions (R104, R105), from
a state or by replaying a trace. -/

namespace Sys2Proof.Machine

/-- The drivers of the two lines: the master's directions and the receiver's drive of DIO (R27). -/
structure Wire where
  dirs : Dirs
  rx : Dir
deriving DecidableEq, Repr

/-- The wired-AND of a line's drivers (R27): CLK has one, DIO two. -/
def Wire.level (w : Wire) : Line → Level
  | .clk => if w.dirs.clk = .released then .high else .low
  | .dio => if w.dirs.dio = .released ∧ w.rx = .released then .high else .low

/-- The drivers of a state (R27). -/
def State.wire (s : State) : Wire :=
  ⟨s.dirs, s.rxDio⟩

/-- The wire level of a line in a state (R27). -/
def State.level (s : State) (l : Line) : Level :=
  s.wire.level l

/-- The master's directions after an event (R89, R90; RD and WAIT leave them, R55). -/
def Dirs.after (d : Dirs) : Event → Dirs
  | .drv l => d.set l .driven
  | .rel l => d.set l .released
  | .rd _ => d
  | .wait => d

/-- The directions after a trace replayed from known ones (R94, R95). -/
def Dirs.replay (d : Dirs) (tr : List Event) : Dirs :=
  tr.foldl Dirs.after d

/-- The drivers just after an event, the receiver's drive not moving during the action (R94). -/
def Wire.after (w : Wire) (e : Event) : Wire :=
  { w with dirs := w.dirs.after e }

/-- The two edges of a line (R94). -/
inductive Edge where
  | rise
  | fall
deriving DecidableEq, Repr

/-- The edge between two levels (R94). -/
def edgeBetween : Level → Level → Option Edge
  | .low, .high => some .rise
  | .high, .low => some .fall
  | .low, .low => none
  | .high, .high => none

/-- The edge of a line at an event (R94). -/
def Wire.edge (w : Wire) (e : Event) (l : Line) : Option Edge :=
  edgeBetween (w.level l) ((w.after e).level l)

/-- The two framing conditions of the wire (R104, R105). -/
inductive Condition where
  | start
  | stop
deriving DecidableEq, Repr

/-- A DIO edge at an action before and after which CLK is high: a fall is a start condition (R104), a rise a stop
condition (R105). -/
def Wire.condition (w : Wire) (e : Event) : Option Condition :=
  if w.level .clk = .high ∧ (w.after e).level .clk = .high then
    match w.edge e .dio with
    | some .fall => some .start
    | some .rise => some .stop
    | none => none
  else none

/-- An event of a trace with the receiver's drive of DIO that the action meets. The trace alone does not show the drive
(R29, R95), so a replay is given it. Log entry 17. -/
structure Met where
  event : Event
  rx : Dir
deriving DecidableEq, Repr

/-- The drivers just before a met action, the master's directions being d. -/
def Met.wire (m : Met) (d : Dirs) : Wire :=
  ⟨d, m.rx⟩

/-- A trace met with the receiver's drive released throughout, as outside every ACK window (R28). -/
def metReleased (tr : List Event) : List Met :=
  tr.map fun e => ⟨e, .released⟩

/-- The drives met along the events of a whole request whose sample is v are ones the spec allows: each is the fixed one
wherever one is fixed (R28, R95, R118). -/
def receiverAllowed (op : Op) (v : Level) (ms : List Met) : Prop :=
  ∀ k m d, ms[k]? = some m → receiverFixed op k (some v) v = some d → m.rx = d

/-- The conditions on the wire along a met trace from known directions, each with its action's index counted from j
(R104, R105). -/
def Dirs.conditions (d : Dirs) (j : Nat) : List Met → List (Nat × Condition)
  | [] => []
  | m :: ms =>
    match (m.wire d).condition m.event with
    | some c => (j, c) :: (d.after m.event).conditions (j + 1) ms
    | none => (d.after m.event).conditions (j + 1) ms

/-- The edges of a line at the actions of a met trace from known directions, each with its action's index counted from j.
An edge that the receiver makes between two actions stands nowhere in it (R94). -/
def Dirs.edges (d : Dirs) (l : Line) (j : Nat) : List Met → List (Nat × Edge)
  | [] => []
  | m :: ms =>
    match (m.wire d).edge m.event l with
    | some c => (j, c) :: (d.after m.event).edges l (j + 1) ms
    | none => (d.after m.event).edges l (j + 1) ms

end Sys2Proof.Machine
end

