-- ==== Sys2Proof/Safety.lean ====
section
/-! DEFINITION. What a launch, a good state and a safe run are: the boot duties and CleanLaunch (R170, R173), the
invariants that every step keeps, and the agreement of two states on the block (R88). -/

namespace Sys2Proof.Machine

/-- What the platform and the host have established before the first request (R170), as facts about the outside. -/
structure BootDuties where
  /-- Duty 1: both lines are connected to pins configured for digital input and output. -/
  pinsDigital : Bool
  /-- Duty 2: each pin's output latch holds low. -/
  latchesLow : Bool
  /-- Duty 3: external pull-ups are fitted on both lines. -/
  pullUpsFitted : Bool
  /-- Duty 4: both pins are configured as inputs. -/
  pinsInputs : Bool
  /-- Duty 5: the timer interrupt's handler touches neither pin. -/
  handlerLeavesPins : Bool
  /-- Host procedures are used, so duty 6 applies. -/
  hostProcedures : Bool
deriving DecidableEq, Repr

/-- The boot requirements hold (R170); duty 6 is read off DisplayConfig. -/
def BootDuties.hold (b : BootDuties) (s : State) : Bool :=
  b.pinsDigital && b.latchesLow && b.pullUpsFitted && b.pinsInputs && b.handlerLeavesPins
    && (!b.hostProcedures || s.display.inRange)

/-- Every field of the block, with pc and the receiver's drive, is at its reset value (R167, R173). -/
def State.blockAtReset (s : State) : Prop :=
  s.dirs = Dirs.idleBus ∧ s.seq = .idle ∧ s.data = none ∧ s.asmp = none ∧ s.lastAck = none ∧
  s.frameOpen = false ∧ s.faults = FaultBits.none ∧ s.trace = [] ∧ s.pc = 0 ∧ s.rxDio = .released

/-- CleanLaunch (R173). -/
def CleanLaunch (b : BootDuties) (s : State) : Prop :=
  s.blockAtReset ∧ b.hold s = true

/-- The sequencer's index lies in its list, and a WRITE in progress has its operand and has sampled exactly once it is
past its read (R21, R86). -/
def State.seqOk (s : State) : Prop :=
  match s.seq with
  | .idle => True
  | .run op k =>
    k < (s.actions op).length ∧ (op = .write → s.data.isSome = true ∧ (s.asmp = none ↔ k ≤ 53))

/-- The trace ends with the first k actions of the request in progress (R50, R57, R60). -/
def State.traceOk (s : State) : Prop :=
  match s.seq with
  | .idle => True
  | .run op k => ((s.actions op).take k).map (LineAction.event (s.asmp.getD .high)) <:+ s.trace

/-- The directions are those the trace gives from the idle bus (R56, R94, R95). -/
def State.dirsOk (s : State) : Prop :=
  s.dirs = Dirs.idleBus.replay s.trace

/-- LAST_ACK is the result of the last completed WRITE (R24, R35): of the last sample in the trace, but for a WRITE
still in progress past its own. -/
def State.ackOk (s : State) : Prop :=
  match s.seq with
  | .run .write k =>
    s.lastAck =
      (if k ≤ 53 then writeResults s.trace else (writeResults s.trace).dropLast).getLast?
  | .run .start _ => s.lastAck = (writeResults s.trace).getLast?
  | .run .stop _ => s.lastAck = (writeResults s.trace).getLast?
  | .idle => s.lastAck = (writeResults s.trace).getLast?

/-- The invariant of every run from a clean launch: pc stays inside the program (R22), and the four facts above. -/
def State.Inv (s : State) : Prop :=
  s.pc ≤ s.program.length ∧ s.seqOk ∧ s.traceOk ∧ s.dirsOk ∧ s.ackOk

/-- Two states agree on everything but the tick flag and the scheduler's own fields (R88). -/
def State.sameBlock (s t : State) : Prop :=
  { s with tick := t.tick, sched := t.sched, turns := t.turns } = t

/-- Every fault bit set in f is set in g (R148: sticky). -/
def FaultBits.le (f g : FaultBits) : Prop :=
  ∀ c, f.get c = true → g.get c = true

end Sys2Proof.Machine
end

