-- ==== Sys2Proof/Certificates/Slice0/Obligations.lean ====
section
/-! DEFINITION. The statements for the provers. Each docstring names the rules of spec/ it formalises; states and
traces are written out here from the spec's tables, not through the model's own lists. -/

open Sys2Proof Sys2Proof.Machine

/-! The spec's tables, written out for the statements. -/

/-- A REQ word is reserved (R69): op 0b00, or op START or STOP with data other than 0. -/
def Sys2Proof.Spec.reservedReq (w : ReqWord) : Bool :=
  w.toNat / 256 == 0 || ((w.toNat / 256 == 1 || w.toNat / 256 == 2) && w.toNat % 256 != 0)

/-- The 25 reserved LINE codes (R73, in the order of 95_test_vectors.md 2.2). -/
def Sys2Proof.Spec.reservedLine : List Nat :=
  [0x02, 0x03, 0x06, 0x07, 0x0A, 0x0B, 0x0E, 0x0F, 0x12, 0x13, 0x16, 0x17, 0x1A, 0x1B, 0x1E, 0x1F,
   0x08, 0x18, 0x0D, 0x1D, 0x10, 0x11, 0x14, 0x15, 0x1C]

/-- The events of a START (R100, R111). -/
def Sys2Proof.Spec.startTrace (releasesClk : Bool) : List Event :=
  if releasesClk then [.rel .clk, .drv .dio, .wait] else [.drv .dio, .wait]

/-- The events of a STOP (R102). -/
def Sys2Proof.Spec.stopTrace : List Event :=
  [.drv .dio, .wait, .rel .clk, .wait, .rel .dio, .wait]

/-- The events of bit slot i of byte d (R112, R114). -/
def Sys2Proof.Spec.slotTrace (d : Byte) (i : Nat) : List Event :=
  [.drv .clk, .wait, if d.getLsbD i then .rel .dio else .drv .dio, .wait, .rel .clk, .wait]

/-- The events of a WRITE of byte d whose sample is v (R112, R117, R123). -/
def Sys2Proof.Spec.writeTrace (d : Byte) (v : Level) (trailing : Bool) : List Event :=
  (List.range 8).flatMap (Sys2Proof.Spec.slotTrace d)
    ++ [.drv .clk, .rel .dio, .wait, .rel .clk, .wait, .rd v]
    ++ (if v = .low then [.drv .dio] else [])
    ++ [.wait, .drv .clk]
    ++ (if trailing then [.wait] else [])

/-- The faults of a state with FRAMING raised under a condition. -/
def Sys2Proof.Spec.withFraming (b : Bool) (f : FaultBits) : FaultBits :=
  if b then { f with framing := true } else f

/-- A fault-free passage through a list of requests (R85): whether a frame is open at the end, none if one is
misframed. -/
def Sys2Proof.Spec.framed : Bool → List Instr → Option Bool
  | o, [] => some o
  | o, .start :: is => if o then none else Sys2Proof.Spec.framed true is
  | o, .stop :: is => if o then Sys2Proof.Spec.framed false is else none
  | o, .write _ :: is => if o then Sys2Proof.Spec.framed o is else none
  | _, _ :: _ => none

/-- Whether position i of a compose shows its digit, not blanked as a leading zero (R133): zeros are shown, or the digit
is not zero, or it is the rightmost, or a digit to its left is not zero. xs are the digits, leftmost first. -/
def Sys2Proof.Spec.shows (zb : Bool) (xs : List Digit) (i : Nat) : Bool :=
  zb || decide (xs[i]? ≠ some 0) || i == 3 || (xs.take i).any (fun d => decide (d ≠ 0))

/-- The segment byte of position i holding digit d (R133): the override, the decimal point, the digit, or blank. -/
def Sys2Proof.Spec.segment (c : DisplayConfig) (xs : List Digit) (i : Nat) (d : Digit) : Byte :=
  if c.maxDigits ≤ i then 0x00#8
  else if i = c.dp then Config.seg d ||| 0x80#8
  else if Sys2Proof.Spec.shows c.zb xs i then Config.seg d
  else 0x00#8

/-- The 13 words of a RenderFrame with segment bytes b and display-on byte e (R134). -/
def Sys2Proof.Spec.renderWords (b : Quad Byte) (e : Byte) : List ReqWord :=
  [0x100#10, 0x340#10, 0x200#10,
   0x100#10, 0x3C0#10, 0x300#10 ||| b.p0.setWidth 10, 0x300#10 ||| b.p1.setWidth 10, 0x300#10 ||| b.p2.setWidth 10,
     0x300#10 ||| b.p3.setWidth 10, 0x200#10,
   0x100#10, 0x300#10 ||| e.setWidth 10, 0x200#10]

/-- The configuration is out of range (R130). -/
def Sys2Proof.Spec.outOfRange (c : DisplayConfig) : Bool :=
  decide (7 < c.brightness ∨ c.maxDigits < 1 ∨ 4 < c.maxDigits)

/-- The words of an assembler line whose numbers are in range (R79, R80). -/
def Sys2Proof.Spec.lineWords : AsmLine → List ReqWord
  | .start => [0x100#10]
  | .stop => [0x200#10]
  | .write n => [BitVec.ofNat 10 (0x300 + n)]
  | .frame ns => 0x100#10 :: ns.map (fun n => BitVec.ofNat 10 (0x300 + n)) ++ [0x200#10]
  | .setMode => [0x100#10, 0x340#10, 0x200#10]
  | .setDigits a b c d => [0x100#10, 0x3C0#10, BitVec.ofNat 10 (0x300 + a), BitVec.ofNat 10 (0x300 + b),
      BitVec.ofNat 10 (0x300 + c), BitVec.ofNat 10 (0x300 + d), 0x200#10]
  | .dispOn b => [0x100#10, BitVec.ofNat 10 (0x388 + b), 0x200#10]
  | .dispOff => [0x100#10, 0x380#10, 0x200#10]

/-! ## Reset and launch -/

/-- R167: every row of the reset table, and the entry point: the first step of the thread from reset accepts program[0]. -/
def Obligations.ResetLeavesTheLaunchState : Prop :=
  (State.reset.dirs.clk = .released ∧ State.reset.dirs.dio = .released ∧ State.reset.seq = .idle ∧
    State.reset.data = none ∧ State.reset.asmp = none ∧ State.reset.lastAck = none ∧
    State.reset.frameOpen = false ∧ (∀ c, State.reset.faults.get c = false) ∧ State.reset.trace = [] ∧
    State.reset.pc = 0 ∧ State.reset.rxDio = .released ∧ State.reset.tick = false ∧ State.reset.buffer = none ∧
    State.reset.display =
      ⟨Config.cfgBrightness, Config.cfgDp, Config.cfgZb, Config.cfgMaxDigits⟩) ∧
  ∀ w ws, threadStep { State.reset with program := w :: ws } = accept w { State.reset with program := w :: ws }

/-- R168: the reset state is the idle bus, the state STOP leaves; the first START from it makes a start condition. -/
def Obligations.ResetIsTheIdleBus : Prop :=
  State.reset.level .clk = .high ∧ State.reset.level .dio = .high ∧
  (∀ d : Dirs, d.replay Sys2Proof.Spec.stopTrace = State.reset.dirs) ∧
  State.reset.rxDio = .released ∧
  ∀ b, ∃ j, State.reset.dirs.conditions 0 (metReleased (Sys2Proof.Spec.startTrace b)) = [(j, .start)]

/-- R173, R167: every clean launch satisfies the invariant. -/
def Obligations.CleanLaunchMeetsTheInvariant : Prop :=
  State.reset.Inv ∧ ∀ b s, CleanLaunch b s → s.Inv

/-! ## The step -/

/-- From every state that meets the invariant a step answers a next state that meets it: no run from a clean launch
stops (R83, R87, R146), SEQ stays inside its list (R21), a request's actions are contiguous (R57), DIR follows the trace
(R95) and LAST_ACK is the last WRITE's result (R24). -/
def Obligations.EveryStepAnswersAndKeepsTheInvariant : Prop :=
  ∀ s : State, s.Inv → ∃ t, step s = .next t ∧ t.Inv

/-- What a step does around exec (R83, R84, R86): on the thread's turn with seq Idle it is exec of the decoded request;
with a request in progress it is exec of the action at hand, the receiver met before it and SEQ advanced after it. The
scheduler's bookkeeping is the model's own (log entry 2). -/
def Obligations.StepRunsTheDecodedInstruction : Prop :=
  (∀ (s : State) (w : ReqWord) (i : Instr), s.agent = .thread → s.seq = .idle → s.program[s.pc]? = some w →
    decode (.req w) = .ok i →
    step s = exec i { s with sched := s.sched.tail, turns := s.turns + 1 }) ∧
  (∀ (s : State) (op : Op) (k : Nat) (a : LineAction), s.agent = .thread → s.seq = .run op k →
    (s.actions op)[k]? = some a →
    step s = andThen
      (exec (a.instr s.answer)
        (State.meetReceiver { s with sched := s.sched.tail, turns := s.turns + 1 } op k a))
      (fun t => t.advanceSeq op k))

/-- R84 with R85, whole: what the acceptance of every one of the 1024 words does. -/
def Obligations.AcceptanceOfEveryWord : Prop :=
  ∀ (s : State) (w : ReqWord), s.seq = .idle → s.program[s.pc]? = some w →
    threadStep s = .next (
      if Sys2Proof.Spec.reservedReq w then
        { s with pc := s.pc + 1, faults := { s.faults with illegalRequest := true } }
      else if w.toNat / 256 = 1 then
        { s with pc := s.pc + 1, frameOpen := true, seq := .run .start 0,
                 faults := Sys2Proof.Spec.withFraming s.frameOpen s.faults }
      else if w.toNat / 256 = 2 then
        { s with pc := s.pc + 1, frameOpen := false, seq := .run .stop 0,
                 faults := Sys2Proof.Spec.withFraming (!s.frameOpen) s.faults }
      else
        { s with pc := s.pc + 1, data := some (BitVec.ofNat 8 (w.toNat % 256)), asmp := none, seq := .run .write 0,
                 faults := Sys2Proof.Spec.withFraming (!s.frameOpen) s.faults })

/-- R86: the master action step. It performs action k of op's list, then advances SEQ; at the list's end SEQ is Idle and
a WRITE has recorded its result. Nothing else changes but the receiver's drive and the model's draw bookkeeping. -/
def Obligations.MasterStepPerformsTheIndexedAction : Prop :=
  ∀ (s : State) (op : Op) (k : Nat) (a : LineAction), s.seq = .run op k → (s.actions op)[k]? = some a →
    (a = .rd → s.dirs.dio = .released) →
    ∃ t, threadStep s = .next t ∧
      t.trace = s.trace ++ [a.event s.answer] ∧
      t.dirs = s.dirs.after (a.event s.answer) ∧
      t.asmp = (if a = .rd then some s.answer else s.asmp) ∧
      (k + 1 = (actionList s.params op s.dataByte t.asmp).length →
        t.seq = .idle ∧ t.lastAck = (if op = .write then some (t.asmp == some .low) else s.lastAck)) ∧
      (k + 1 ≠ (actionList s.params op s.dataByte t.asmp).length →
        t.seq = .run op (k + 1) ∧ t.lastAck = s.lastAck) ∧
      t = { s with trace := t.trace, dirs := t.dirs, asmp := t.asmp, seq := t.seq, lastAck := t.lastAck,
                   rxDio := t.rxDio, answers := t.answers, draws := t.draws }

/-- R83, R155: the timer interrupt's step sets the tick flag and changes nothing of the block. -/
def Obligations.TimerStepSetsOnlyTheTick : Prop :=
  ∀ s : State, s.agent = .timer →
    step s = .next { s with tick := true, sched := s.sched.tail, turns := s.turns + 1 }

/-- R155: the block never reads or writes tick. The thread's step from a state with any tick is its step, tick kept. -/
def Obligations.TheThreadNeitherReadsNorWritesTick : Prop :=
  ∀ (s : State) (b : Bool),
    threadStep { s with tick := b } = andThen (threadStep s) (fun t => { t with tick := b }) ∧
    ∀ t, threadStep s = .next t → t.tick = s.tick

/-- R88: where the interrupt steps fall does not matter. Any interleaving of agents answers exactly when the thread's own
steps do, and ends in the same block state; and a step with an imposed scheduler choice is that agent's step (the imposed choice is log entry 2). -/
def Obligations.InterruptsDoNotChangeTheBlock : Prop :=
  (∀ (as : List Agent) (s t : State), runAgents as s = .next t →
    ∃ u, runThread (as.count .thread) s = .next u ∧ t.sameBlock u) ∧
  (∀ (as : List Agent) (s u : State), runThread (as.count .thread) s = .next u →
    ∃ t, runAgents as s = .next t ∧ t.sameBlock u) ∧
  ∀ (a : Agent) (s : State),
    step { s with sched := a :: s.sched } = agentStep a { s with turns := s.turns + 1 }

/-- R87: the master never holds. From acceptance, a request in progress completes after exactly as many master steps as
its list has actions, at most 58. -/
def Obligations.EveryAcceptedRequestCompletes : Prop :=
  ∀ (s : State) (op : Op), s.Inv → s.seq = .run op 0 →
    ∃ n t, n ≤ 58 ∧ runThread n s = .next t ∧ t.seq = .idle ∧ n = (actionList t.params op t.dataByte t.asmp).length ∧
      t.trace.length = s.trace.length + n

/-- R185: at the end of a run a frame left open raises FRAMING and nothing else changes; the end state is final iff no
fault bit is set. That the model's step performs this check and then repeats it is log entry 6. -/
def Obligations.EndOfRunMarksAnOpenFrame : Prop :=
  ∀ s : State, s.seq = .idle → s.pc = s.program.length →
    threadStep s = .next { s with faults := Sys2Proof.Spec.withFraming s.frameOpen s.faults } ∧
    s.atEnd = true ∧
    (s.final = true ↔ ∀ c, (Sys2Proof.Spec.withFraming s.frameOpen s.faults).get c = false)

/-! ## The instructions -/

/-- START (R101, R84, R85): accepted from Idle it answers this state, whatever else holds. -/
def Obligations.StartIsAccepted : Prop :=
  ∀ s : State, s.seq = .idle →
    exec .start s = .next { s with
      pc := s.pc + 1
      frameOpen := true
      seq := .run .start 0
      faults := Sys2Proof.Spec.withFraming s.frameOpen s.faults }

/-- STOP (R103, R84, R85). -/
def Obligations.StopIsAccepted : Prop :=
  ∀ s : State, s.seq = .idle →
    exec .stop s = .next { s with
      pc := s.pc + 1
      frameOpen := false
      seq := .run .stop 0
      faults := Sys2Proof.Spec.withFraming (!s.frameOpen) s.faults }

/-- WRITE (R113, R84, R85): data and asmp are written, frame_open and last_ack are not. -/
def Obligations.WriteIsAccepted : Prop :=
  ∀ (s : State) (d : Byte), s.seq = .idle →
    exec (.write d) s = .next { s with
      pc := s.pc + 1
      data := some d
      asmp := none
      seq := .run .write 0
      faults := Sys2Proof.Spec.withFraming (!s.frameOpen) s.faults }

/-- R34: the host has no move while seq is not Idle; the three requests stop by name (log entry 9). -/
def Obligations.ARequestWhileBusyStops : Prop :=
  ∀ (s : State) (op : Op) (k : Nat) (d : Byte), s.seq = .run op k →
    exec .start s = .fault .hostBusy ∧ exec .stop s = .fault .hostBusy ∧ exec (.write d) s = .fault .hostBusy

/-- R89, whole: DRV CLK and DRV DIO, their codes, and the levels after them whatever the receiver does. -/
def Obligations.DriveLowDrivesItsLine : Prop :=
  (∀ s : State, ∃ t, exec .drvClk s = .next t ∧
    t = { s with dirs := ⟨.driven, s.dirs.dio⟩, trace := s.trace ++ [.drv .clk] } ∧ t.level .clk = .low) ∧
  (∀ s : State, ∃ t, exec .drvDio s = .next t ∧
    t = { s with dirs := ⟨s.dirs.clk, .driven⟩, trace := s.trace ++ [.drv .dio] } ∧ t.level .dio = .low) ∧
  encode .drvClk = .line 0x00#5 ∧ encode .drvDio = .line 0x01#5

/-- R90, whole: REL CLK and REL DIO, their codes, and the levels after them. -/
def Obligations.ReleaseReleasesItsLine : Prop :=
  (∀ s : State, ∃ t, exec .relClk s = .next t ∧
    t = { s with dirs := ⟨.released, s.dirs.dio⟩, trace := s.trace ++ [.rel .clk] } ∧ t.level .clk = .high) ∧
  (∀ s : State, ∃ t, exec .relDio s = .next t ∧
    t = { s with dirs := ⟨s.dirs.clk, .released⟩, trace := s.trace ++ [.rel .dio] } ∧
    (t.level .dio = .high ↔ s.rxDio = .released)) ∧
  encode .relClk = .line 0x04#5 ∧ encode .relDio = .line 0x05#5

/-- R91: RD DIO with DIO released records the sample and nothing else. -/
def Obligations.ReadRecordsTheSample : Prop :=
  (∀ (s : State) (v : Level), s.dirs.dio = .released →
    exec (.rdDio v) s = .next { s with asmp := some v, trace := s.trace ++ [.rd v] }) ∧
  encode (.rdDio .low) = .line 0x09#5 ∧ encode (.rdDio .high) = .line 0x19#5

/-- R91: a read while the master drives DIO is never performed; the model stops by name (log entry 10). -/
def Obligations.ReadWhileDrivenStops : Prop :=
  ∀ (s : State) (v : Level), s.dirs.dio = .driven → exec (.rdDio v) s = .fault .readWhileDriven

/-- R92: WAIT changes nothing but the trace. -/
def Obligations.WaitOnlyEmits : Prop :=
  (∀ s : State, exec .wait s = .next { s with trace := s.trace ++ [.wait] }) ∧ encode .wait = .line 0x0C#5

/-- R91: the draw is unconstrained. At every RD both values are admitted: for each level some state that differs only in
the imposed answers records it; and a read with no imposed answer records the free value. How the draw is imposed or
free is log entry 3. -/
def Obligations.EitherAnswerIsAdmitted : Prop :=
  (∀ (s : State) (v : Level), s.seq = .run .write 53 → s.dirs.dio = .released →
    ∃ t, threadStep { s with answers := v :: s.answers } = .next t ∧ t.asmp = some v ∧
      t.trace = s.trace ++ [.rd v] ∧ t.answers = s.answers) ∧
  (∀ s : State, s.seq = .run .write 53 → s.dirs.dio = .released → s.answers = [] →
    ∃ t, threadStep s = .next t ∧ t.asmp = some (Config.freeAnswer s.draws))

/-! ## Requests from acceptance to completion -/

/-- START from acceptance to completion (R100, R101, R110, R111), for both values of P_START_RELEASES_CLK. That the
receiver is met released and the draw counter advances is the model's own (log entries 3 to 5). -/
def Obligations.StartRunsItsList : Prop :=
  ∀ s : State, s.seq = .idle → s.program[s.pc]? = some 0x100#10 →
    ∃ t, runThread (1 + (Sys2Proof.Spec.startTrace s.params.startReleasesClk).length) s = .next t ∧
      t = { s with
        pc := s.pc + 1
        frameOpen := true
        faults := Sys2Proof.Spec.withFraming s.frameOpen s.faults
        trace := s.trace ++ Sys2Proof.Spec.startTrace s.params.startReleasesClk
        dirs := ⟨if s.params.startReleasesClk then .released else s.dirs.clk, .driven⟩
        rxDio := .released
        draws := s.draws + (Sys2Proof.Spec.startTrace s.params.startReleasesClk).length } ∧
      t.level .dio = .low ∧ (s.params.startReleasesClk = true → t.level .clk = .high)

/-- STOP from acceptance to completion (R102, R103, R110). That the receiver is met released and the draw counter advances
is the model's own (log entries 3 to 5). -/
def Obligations.StopRunsItsList : Prop :=
  ∀ s : State, s.seq = .idle → s.program[s.pc]? = some 0x200#10 →
    ∃ t, runThread 7 s = .next t ∧
      t = { s with
        pc := s.pc + 1
        frameOpen := false
        faults := Sys2Proof.Spec.withFraming (!s.frameOpen) s.faults
        trace := s.trace ++ Sys2Proof.Spec.stopTrace
        dirs := ⟨.released, .released⟩
        rxDio := .released
        draws := s.draws + 6 } ∧
      t.level .clk = .high ∧ t.level .dio = .high

/-- WRITE from acceptance to completion (R112, R113, R116, R117, R119, R120, R122), for both values of
P_WB_TRAILING_WAIT and both samples: the whole trace, the end state, the result and the frame. Where the sample v comes
from, and the imposed answer used up, are log entry 3. -/
def Obligations.WriteRunsItsList : Prop :=
  ∀ (s : State) (d : Byte) (v : Level), s.seq = .idle → s.program[s.pc]? = some (0x300#10 ||| d.setWidth 10) →
    v = (match s.answers with | u :: _ => u | [] => Config.freeAnswer (s.draws + 53)) →
    ∃ t, runThread (1 + (Sys2Proof.Spec.writeTrace d v s.params.wbTrailingWait).length) s = .next t ∧
      t.trace = s.trace ++ Sys2Proof.Spec.writeTrace d v s.params.wbTrailingWait ∧
      t.seq = .idle ∧ t.pc = s.pc + 1 ∧ t.data = some d ∧ t.asmp = some v ∧
      t.lastAck = some (v == .low) ∧
      t.dirs = ⟨.driven, if v = .low then .driven else .released⟩ ∧
      t.level .clk = .low ∧ t.level .dio = v ∧
      t.faults = Sys2Proof.Spec.withFraming (!s.frameOpen) s.faults ∧
      t.answers = s.answers.tail ∧
      t = { s with trace := t.trace, pc := t.pc, data := t.data, asmp := t.asmp, lastAck := t.lastAck, dirs := t.dirs,
                   faults := t.faults, rxDio := t.rxDio, answers := t.answers, draws := t.draws }

/-- R115: at the CLK rising edge of slot i of a WRITE, level(DIO) is bit i of the byte. -/
def Obligations.TheReceiverSamplesTheDataBit : Prop :=
  ∀ (s : State) (d : Byte) (i : Nat), s.Inv → i < 8 → s.seq = .run .write (6 * i + 4) → s.data = some d →
    s.level .clk = .low ∧
    ∃ t, threadStep s = .next t ∧ t.level .clk = .high ∧ t.level .dio = (if d.getLsbD i then .high else .low)

/-- R28, R95, R118 (the spec's decision D6; log entry 4): outside the ACK window the receiver's drive is released at every
master action; before the sample it is free; at the sample the level recorded is the wire level; after a sample of 0 DIO is
held low up to the final DRV CLK; after a sample of 1 it is free at action 54 and released at the final DRV CLK (R120). -/
def Obligations.TheReceiverKeepsToItsWindow : Prop :=
  ∀ (s t : State) (op : Op) (k : Nat), s.seq = .run op k → threadStep s = .next t →
    (inAckWindow op k s.asmp = false → t.rxDio = .released) ∧
    (op = .write → 49 ≤ k → k ≤ 52 → t.rxDio = Config.freeDrive s.draws) ∧
    (op = .write → k = 53 → t.asmp = some (t.level .dio)) ∧
    (op = .write → 54 ≤ k → k ≤ 56 → s.asmp = some .low → t.rxDio = .driven) ∧
    (op = .write → k = 54 → s.asmp = some .high → t.rxDio = Config.freeDrive s.draws) ∧
    (op = .write → k = 55 → s.asmp = some .high → t.rxDio = .released)

/-- R95, R94: a master action's levels. The drivers after it are the receiver's drive it met and the directions its event
makes, which are those of the whole trace replayed from the idle bus; so CLK's level, and outside the ACK window DIO's, are
functions of the trace, and inside it DIO while the master releases it is the receiver's drive. -/
def Obligations.LevelsFollowTheTraceOutsideTheWindow : Prop :=
  ∀ (s t : State) (op : Op) (k : Nat), s.Inv → s.seq = .run op k → threadStep s = .next t →
    (∃ e, t.trace = s.trace ++ [e] ∧ t.wire = (⟨s.dirs, t.rxDio⟩ : Wire).after e) ∧
    t.level .clk = (if (Dirs.idleBus.replay t.trace).clk = .released then .high else .low) ∧
    (inAckWindow op k s.asmp = false →
      t.level .dio = (if (Dirs.idleBus.replay t.trace).dio = .released then .high else .low)) ∧
    ((Dirs.idleBus.replay t.trace).dio = .released → (t.level .dio = .high ↔ t.rxDio = .released))

/-! ## Wire conditions -/

/-- R121: a WRITE produces neither a start nor a stop condition, from any directions and whatever the receiver does within
its ACK window (log entries 4 and 17). -/
def Obligations.AWriteMakesNoCondition : Prop :=
  ∀ (dirs : Dirs) (d : Byte) (v : Level) (trailing : Bool) (j : Nat) (ms : List Met),
    ms.map Met.event = Sys2Proof.Spec.writeTrace d v trailing → receiverAllowed .write v ms →
    dirs.conditions j ms = []

/-- R106, R109, R111: the conditions of a START from idle, after an acknowledged and an unacknowledged WRITE, and
directly after a START, and the CLK edges, for both values of P_START_RELEASES_CLK; the receiver released, and in the last
clause doing anything. -/
def Obligations.ConditionsOfAStart : Prop :=
  Dirs.conditions ⟨.released, .released⟩ 0 (metReleased (Sys2Proof.Spec.startTrace true)) = [(1, .start)] ∧
  Dirs.edges ⟨.released, .released⟩ .clk 0 (metReleased (Sys2Proof.Spec.startTrace true)) = [] ∧
  Dirs.conditions ⟨.driven, .driven⟩ 0 (metReleased (Sys2Proof.Spec.startTrace true)) = [] ∧
  Dirs.edges ⟨.driven, .driven⟩ .clk 0 (metReleased (Sys2Proof.Spec.startTrace true)) = [(0, .rise)] ∧
  Dirs.conditions ⟨.driven, .released⟩ 0 (metReleased (Sys2Proof.Spec.startTrace true)) = [(1, .start)] ∧
  Dirs.edges ⟨.driven, .released⟩ .clk 0 (metReleased (Sys2Proof.Spec.startTrace true)) = [(0, .rise)] ∧
  Dirs.conditions ⟨.released, .driven⟩ 0 (metReleased (Sys2Proof.Spec.startTrace true)) = [] ∧
  Dirs.edges ⟨.released, .driven⟩ .clk 0 (metReleased (Sys2Proof.Spec.startTrace true)) = [] ∧
  Dirs.conditions ⟨.released, .released⟩ 0 (metReleased (Sys2Proof.Spec.startTrace false)) = [(0, .start)] ∧
  ∀ (x : Dir) (ms : List Met), ms.map Met.event = Sys2Proof.Spec.startTrace false →
    Dirs.conditions ⟨.driven, x⟩ 0 ms = []

/-- R107, R108, R103: the conditions of a STOP from idle, after a WRITE with either answer, and directly after a START,
and its CLK edges. -/
def Obligations.ConditionsOfAStop : Prop :=
  Dirs.conditions ⟨.released, .released⟩ 0 (metReleased Sys2Proof.Spec.stopTrace) = [(0, .start), (4, .stop)] ∧
  (∀ x, Dirs.conditions ⟨.driven, x⟩ 0 (metReleased Sys2Proof.Spec.stopTrace) = [(4, .stop)] ∧
    Dirs.edges ⟨.driven, x⟩ .clk 0 (metReleased Sys2Proof.Spec.stopTrace) = [(2, .rise)]) ∧
  Dirs.conditions ⟨.released, .driven⟩ 0 (metReleased Sys2Proof.Spec.stopTrace) = [(4, .stop)] ∧
  Dirs.edges ⟨.released, .driven⟩ .clk 0 (metReleased Sys2Proof.Spec.stopTrace) = []

/-- R27: the two wire levels, whole. -/
def Obligations.LevelsAreTheWiredAnd : Prop :=
  ∀ s : State,
    s.level .clk = (if s.dirs.clk = .released then .high else .low) ∧
    s.level .dio = (if s.dirs.dio = .released ∧ s.rxDio = .released then .high else .low)

/-- R94: when an action makes an edge. A line falls at a DRV of it that meets it high, and rises at a REL of it while the
master drives it, DIO only if the receiver does not hold it; nothing else makes an edge. -/
def Obligations.EdgesComeOnlyFromTheirOwnLine : Prop :=
  ∀ (w : Wire) (e : Event) (l : Line),
    (w.edge e l = some .fall ↔ e = .drv l ∧ w.level l = .high) ∧
    (w.edge e l = some .rise ↔ e = .rel l ∧ w.dirs.get l = .driven ∧ (l = .dio → w.rx = .released))

/-! ## What no step changes, and who changes what -/

/-- R26, R148: no step clears a fault bit. -/
def Obligations.FaultBitsAreSticky : Prop :=
  ∀ s t : State, step s = .next t → ∀ c, s.faults.get c = true → t.faults.get c = true

/-- R147, R149, R151: what sets a bit that was clear. ILLEGAL_REQUEST: the acceptance of a reserved word. FRAMING: the
acceptance of a request out of frame order, or the end of a run with a frame open. CONFIG_RANGE and UNSET_READ: no step of
the block or the timer. -/
def Obligations.WhoRaisesEachFault : Prop :=
  ∀ (s t : State) (c : Cause), step s = .next t → s.faults.get c = false → t.faults.get c = true →
    s.agent = .thread ∧ s.seq = .idle ∧
    ((c = .illegalRequest ∧ ∃ w, s.program[s.pc]? = some w ∧ Sys2Proof.Spec.reservedReq w = true) ∨
     (c = .framing ∧ ((s.program[s.pc]? = some 0x100#10 ∧ s.frameOpen = true) ∨
       (s.program[s.pc]? = some 0x200#10 ∧ s.frameOpen = false) ∨
       (∃ d : Byte, s.program[s.pc]? = some (0x300#10 ||| d.setWidth 10) ∧ s.frameOpen = false) ∨
       (s.program[s.pc]? = none ∧ s.frameOpen = true))))

/-- R148, R185: a state with a fault bit set never leads to a final state, under any interleaving. -/
def Obligations.AFaultedRunIsNeverFinal : Prop :=
  ∀ (as : List Agent) (s t : State) (c : Cause), s.faults.get c = true → runAgents as s = .next t → t.final = false

/-- R24, R31: only WRITE completion writes LAST_ACK, and it writes whether the sample was 0. -/
def Obligations.OnlyWriteCompletionWritesLastAck : Prop :=
  ∀ s t : State, step s = .next t → t.lastAck ≠ s.lastAck →
    s.agent = .thread ∧ (∃ k, s.seq = .run .write k) ∧ t.seq = .idle ∧ t.lastAck = some (t.asmp == some .low)

/-- R19, R29, R55, R56: a step appends at most one event to the trace; with an event DIR is what that event makes it, and
without one DIR is unchanged. -/
def Obligations.OnlyLineActionsMoveTheLines : Prop :=
  ∀ s t : State, step s = .next t →
    (t.trace = s.trace ∧ t.dirs = s.dirs) ∨
    (s.seq ≠ .idle ∧ ∃ e, t.trace = s.trace ++ [e] ∧ t.dirs = s.dirs.after e)

/-- R22, R61, R145: no step changes the program, the parameters or the host's display state; pc stays, or advances by
exactly one at the acceptance or refusal of a word. -/
def Obligations.NoStepWritesTheProgram : Prop :=
  ∀ s t : State, step s = .next t →
    t.program = s.program ∧ t.params = s.params ∧ t.display = s.display ∧ t.buffer = s.buffer ∧
    (t.pc = s.pc ∨ (t.pc = s.pc + 1 ∧ s.seq = .idle ∧ s.pc < s.program.length))

/-- R25: frame_open is written only by accepting START (true) and STOP (false). -/
def Obligations.OnlyStartAndStopWriteFrameOpen : Prop :=
  ∀ s t : State, step s = .next t → t.frameOpen ≠ s.frameOpen →
    (t.frameOpen = true ∧ t.seq = .run .start 0 ∧ s.seq = .idle ∧ s.program[s.pc]? = some 0x100#10) ∨
    (t.frameOpen = false ∧ t.seq = .run .stop 0 ∧ s.seq = .idle ∧ s.program[s.pc]? = some 0x200#10)

/-! ## Encoding -/

/-- R67, R71: the decoder reads back every encoding, and every word that decodes is the encoding of what it decodes to:
one word for each instruction and one instruction for each word. -/
def Obligations.DecodeAndEncodeAgree : Prop :=
  (∀ i, decode (encode i) = .ok i) ∧ ∀ c i, decode c = .ok i → encode i = c

/-- R67, R71: words written out from the tables (a sanity statement). -/
def Obligations.SpelledWordsDecode : Prop :=
  decode (.req 0b0100000000#10) = .ok .start ∧ decode (.req 0b1000000000#10) = .ok .stop ∧
  decode (.req 0b1101000000#10) = .ok (.write 0x40#8) ∧ decode (.line 0b00000#5) = .ok .drvClk ∧
  decode (.line 0b00101#5) = .ok .relDio ∧ decode (.line 0b11001#5) = .ok (.rdDio .high) ∧
  decode (.line 0b01100#5) = .ok .wait

/-- R69, R77: the reserved REQ words are exactly those the decoder rejects; 258 of the 1024 are legal. -/
def Obligations.ReservedRequestWordsAreRejected : Prop :=
  (∀ w : ReqWord, (∃ e, decode (.req w) = .error e) ↔ Sys2Proof.Spec.reservedReq w = true) ∧
  ((List.range 1024).countP fun n => !Sys2Proof.Spec.reservedReq (BitVec.ofNat 10 n)) = 258

/-- R72, R73: the 25 reserved LINE codes are exactly those the decoder rejects, and no event has one. -/
def Obligations.ReservedLineCodesAreRejected : Prop :=
  (∀ w : LineWord, (∃ e, decode (.line w) = .error e) ↔ w.toNat ∈ Sys2Proof.Spec.reservedLine) ∧
  ∀ e : Event, e.code.toNat ∉ Sys2Proof.Spec.reservedLine

/-- R29, R70, R73: a trace is read back from its codes, and what is read back has those codes. -/
def Obligations.TracesAreReadBackFromTheirCodes : Prop :=
  (∀ tr : List Event, decodeTrace (tr.map Event.code) = .ok tr) ∧
  ∀ ws tr, decodeTrace ws = .ok tr → tr.map Event.code = ws

/-- R79, R80: the assembler accepts exactly the well-formed lines, makes of each the words of its expansion, and makes only
requests. -/
def Obligations.TheAssemblerAcceptsWellFormedLines : Prop :=
  ∀ l : AsmLine,
    (l.wellFormed = true → assemble l = .ok (Sys2Proof.Spec.lineWords l)) ∧
    (l.wellFormed = false → ∃ e, assemble l = .error e) ∧
    ∀ ws, assemble l = .ok ws → ∀ w ∈ ws, Sys2Proof.Spec.reservedReq w = false

/-! ## Views -/

/-- R30, whole: the eight bits of STAT, and STAT at reset. -/
def Obligations.StatPacksTheState : Prop :=
  (∀ s : State,
    (s.stat.getLsbD 0 = true ↔ s.seq ≠ .idle) ∧
    s.stat.getLsbD 1 = s.frameOpen ∧
    (s.stat.getLsbD 2 = true ↔ s.lastAck ≠ none) ∧
    (s.stat.getLsbD 3 = true ↔ s.lastAck = some true) ∧
    s.stat.getLsbD 4 = s.faults.get .illegalRequest ∧
    s.stat.getLsbD 5 = s.faults.get .framing ∧
    s.stat.getLsbD 6 = s.faults.get .configRange ∧
    s.stat.getLsbD 7 = s.faults.get .unsetRead) ∧
  State.reset.stat = 0x00#8

/-- R19, R185, R35: DIR as a register, bit 0 CLK and bit 1 DIO, 1 meaning released, 0b11 at reset; and the observation: the
trace, DIR, last_ack as an Option and the WRITE results in order, to which a START and a STOP add nothing and a WRITE adds
whether its sample was 0; with no request in progress last_ack is the latest of them. -/
def Obligations.DirRegisterAndObservation : Prop :=
  (∀ s : State, (s.dirReg.getLsbD 0 = true ↔ s.dirs.clk = .released) ∧
    (s.dirReg.getLsbD 1 = true ↔ s.dirs.dio = .released)) ∧
  State.reset.dirReg = 0b11#2 ∧
  (∀ s : State, s.observe.trace = s.trace ∧ s.observe.dirs = s.dirs ∧ s.observe.lastAck = s.lastAck) ∧
  State.reset.observe.results = [] ∧
  (∀ (s : State) (b : Bool), ({ s with trace := s.trace ++ Sys2Proof.Spec.startTrace b } : State).observe.results =
    s.observe.results) ∧
  (∀ s : State, ({ s with trace := s.trace ++ Sys2Proof.Spec.stopTrace } : State).observe.results = s.observe.results) ∧
  (∀ (s : State) (d : Byte) (v : Level) (b : Bool),
    ({ s with trace := s.trace ++ Sys2Proof.Spec.writeTrace d v b } : State).observe.results =
      s.observe.results ++ [v == .low]) ∧
  ∀ s : State, s.Inv → s.seq = .idle → s.observe.lastAck = s.observe.results.getLast?

/-- R24, R152, R155: demanding last_ack's value while it is none raises UNSET_READ and changes nothing else, and otherwise
changes nothing; the main loop's poll returns the tick flag and clears it. -/
def Obligations.TheHostReadsAckAndTick : Prop :=
  (∀ (s : State) (b : Bool), s.lastAck = some b → s.demandAck = (some b, s)) ∧
  (∀ s : State, s.lastAck = none →
    s.demandAck = (none, { s with faults := { s.faults with unsetRead := true } })) ∧
  ∀ s : State, s.pollTick = (s.tick, { s with tick := false })

/-! ## Timing -/

/-- R180 on R126's counts: in a trace with no two WAITs side by side, the actions at i and j are at least T_SETTLE apart
for every WAIT strictly between them. -/
def Obligations.EveryWaitAddsASettleDelay : Prop :=
  ∀ (tr : List Event) (t : Nat → Rat) (i j : Nat), Timed tr t → waitsApart tr → i ≤ j → j < tr.length →
    (Config.tSettle : Rat) * waits ((tr.take j).drop (i + 1)) ≤ t j - t i

/-- No two WAITs ever stand side by side in a trace of the block (R100, R102, R112): a step keeps them apart. -/
def Obligations.WaitsStayApart : Prop :=
  waitsApart State.reset.trace ∧ ∀ s t : State, s.Inv → waitsApart s.trace → step s = .next t → waitsApart t.trace

/-- R126, R184, R21: the model's action lists perform the events of the spec's tables; the action counts of a START, a STOP
and a WRITE, the counts of each kind in a WRITE, its CLK edges whatever the receiver does, and the minimum durations. -/
def Obligations.ActionCountsAndMinimumDurations : Prop :=
  (∀ (p : Params) (d : Byte) (a : Option Level) (v : Level),
    (actionList p .start d a).map (LineAction.event v) = Sys2Proof.Spec.startTrace p.startReleasesClk ∧
    (actionList p .stop d a).map (LineAction.event v) = Sys2Proof.Spec.stopTrace ∧
    (actionList p .write d (some v)).map (LineAction.event v) = Sys2Proof.Spec.writeTrace d v p.wbTrailingWait ∧
    (actionList p .start d a).length = (if p.startReleasesClk then 3 else 2) ∧
    (actionList p .stop d a).length = 6 ∧
    (actionList p .write d a).length =
      56 + (if a = some .low then 1 else 0) + (if p.wbTrailingWait then 1 else 0)) ∧
  (∀ b, minDuration (Sys2Proof.Spec.startTrace b) = 100) ∧ minDuration Sys2Proof.Spec.stopTrace = 300 ∧
  ∀ (d : Byte) (v : Level) (b : Bool),
    (Sys2Proof.Spec.writeTrace d v b).length = 56 + (if v = .low then 1 else 0) + (if b then 1 else 0) ∧
    (Sys2Proof.Spec.writeTrace d v b).count (.drv .clk) = 10 ∧
    (Sys2Proof.Spec.writeTrace d v b).count (.rel .clk) = 9 ∧
    (Sys2Proof.Spec.writeTrace d v b).count (.rel .dio) + (Sys2Proof.Spec.writeTrace d v b).count (.drv .dio) =
      8 + 1 + (if v = .low then 1 else 0) ∧
    (Sys2Proof.Spec.writeTrace d v b).count (.rd v) = 1 ∧
    waits (Sys2Proof.Spec.writeTrace d v b) = 27 + (if b then 1 else 0) ∧
    minDuration (Sys2Proof.Spec.writeTrace d v b) = 2700 + (if b then 100 else 0) ∧
    ∀ (x : Dirs) (ms : List Met), ms.map Met.event = Sys2Proof.Spec.writeTrace d v b →
      ((x.edges .clk 0 ms).filter (fun c => c.2 == .rise)).length = 9 ∧
      ((x.edges .clk 0 ms).filter (fun c => c.2 == .fall)).length = (if x.clk = .released then 10 else 9)

/-! ## Host procedures -/

/-- R131, R141: ExtractDigits writes the four decimal digits of value mod 10000, leftmost first, and nothing else. -/
def Obligations.ExtractDigitsWritesTheDecimalDigits : Prop :=
  ∀ (s : State) (value : BitVec 16), ∃ x : Quad Digit, s.extractDigits value = { s with buffer := some x } ∧
    x.p0.val * 1000 + x.p1.val * 100 + x.p2.val * 10 + x.p3.val = value.toNat % 10000

/-- R132: RoundDigits on the number the buffer shows. A last digit of at most 5 is zeroed; above 5 the number is carried up
to the next ten, a carry out of the leftmost digit dropped. Nothing but the buffer changes. -/
def Obligations.RoundDigitsRoundsTheLastPlace : Prop :=
  ∀ (s : State) (x : Quad Digit), s.buffer = some x → ∃ y : Quad Digit, s.roundDigits = { s with buffer := some y } ∧
    (x.p3.val ≤ 5 → y = { x with p3 := 0 }) ∧
    (5 < x.p3.val → y.p0.val * 1000 + y.p1.val * 100 + y.p2.val * 10 + y.p3.val =
      (x.p0.val * 1000 + x.p1.val * 100 + x.p2.val * 10 + 10) % 10000)

/-- R133 and R138 (decision D26, log entry 26). Compose as a whole: each position's byte, decided by the configuration, its
digit and the digits to its left. And one position given whether blanking has stopped: its byte is blank, a segment byte or
one with the decimal point, and blanking has stopped after it if it had before, or by a digit that is not zero, or by a
zero shown away from the decimal point; a blanked zero and a zero at the decimal point leave it as it was. -/
def Obligations.ComposeEmitsOneOfThreeKinds : Prop :=
  (∀ (c : DisplayConfig) (x : Quad Digit), compose c x =
    ⟨Sys2Proof.Spec.segment c [x.p0, x.p1, x.p2, x.p3] 0 x.p0, Sys2Proof.Spec.segment c [x.p0, x.p1, x.p2, x.p3] 1 x.p1,
     Sys2Proof.Spec.segment c [x.p0, x.p1, x.p2, x.p3] 2 x.p2, Sys2Proof.Spec.segment c [x.p0, x.p1, x.p2, x.p3] 3 x.p3⟩) ∧
  ∀ (c : DisplayConfig) (i : Nat) (d : Digit) (stop : Bool),
    ((composeAt c i d stop).1 = 0x00#8 ∨ (composeAt c i d stop).1 = Config.seg d ∨
      (composeAt c i d stop).1 = (Config.seg d ||| 0x80#8)) ∧
    (c.maxDigits ≤ i → (composeAt c i d stop).1 = 0x00#8) ∧
    (i < c.maxDigits → i = c.dp → (composeAt c i d stop).1 = (Config.seg d ||| 0x80#8)) ∧
    (i < c.maxDigits → i ≠ c.dp → (c.zb = true ∨ d ≠ 0 ∨ i = 3 ∨ stop = true) → (composeAt c i d stop).1 = Config.seg d) ∧
    (i ≠ c.dp → c.zb = false → d = 0 → i ≠ 3 → stop = false → (composeAt c i d stop).1 = 0x00#8) ∧
    ((composeAt c i d stop).2 = true ↔ stop = true ∨ d ≠ 0 ∨ (i ≠ c.dp ∧ (c.zb = true ∨ i = 3)))

/-- R134, R140: RenderFrame with a set buffer and a configuration in range raises nothing and issues exactly 13 words,
those of the three frames; they are well framed from a closed frame and leave it closed. -/
def Obligations.RenderFrameIssuesThreeFrames : Prop :=
  ∀ (s : State) (x : Quad Digit), s.buffer = some x → s.display.brightness ≤ 7 → 1 ≤ s.display.maxDigits →
    s.display.maxDigits ≤ 4 →
    ∃ is : List Instr, s.renderFrame = { s with program := s.program ++ reqWords is } ∧
      is = [.start, .write 0x40#8, .stop, .start, .write 0xC0#8, .write (compose s.display x).p0,
        .write (compose s.display x).p1, .write (compose s.display x).p2, .write (compose s.display x).p3, .stop,
        .start, .write (0x88#8 + BitVec.ofNat 8 s.display.brightness), .stop] ∧
      (reqWords is).length = 13 ∧ Sys2Proof.Spec.framed false is = some false

/-- R130, R133, R134, R150, R152: RenderFrame from any state. CONFIG_RANGE is marked exactly when the configuration is out of
range, UNSET_READ exactly when the buffer is unset. The 13 words are those of the literal computation: with a set buffer the
composed bytes, whatever max_digits is, and the display-on byte mod 256, whatever the brightness is, a reduction the spec
marks as general knowledge (log entry 27). That an unset buffer gives free segment bytes is log entry 13. Nothing else
changes. -/
def Obligations.RenderFrameMarksItsFaults : Prop :=
  ∀ s : State, ∃ b : Quad Byte,
    (∀ x, s.buffer = some x → b = compose s.display x) ∧
    (s.buffer = none →
      b = ⟨Config.unsetSegment 0, Config.unsetSegment 1, Config.unsetSegment 2, Config.unsetSegment 3⟩) ∧
    (Sys2Proof.Spec.renderWords b (BitVec.ofNat 8 ((0x88 + s.display.brightness) % 256))).length = 13 ∧
    s.renderFrame = { s with
      program := s.program ++
        Sys2Proof.Spec.renderWords b (BitVec.ofNat 8 ((0x88 + s.display.brightness) % 256))
      faults := { s.faults with
        configRange := s.faults.configRange || Sys2Proof.Spec.outOfRange s.display
        unsetRead := s.faults.unsetRead || s.buffer.isNone } }

/-- R135: SetDisplayPower issues START, one WRITE, STOP: the display-on byte (0x88 + brightness) mod 256, or 0x80; the
range check is made in both branches. The mod is R130's, which the spec marks as general knowledge (log entry 27,
PRESUMED). -/
def Obligations.SetDisplayPowerIssuesOneFrame : Prop :=
  ∀ (s : State) (on : Bool),
    s.setDisplayPower on = { s with
      program := s.program ++ [0x100#10,
        0x300#10 ||| (BitVec.ofNat 8 (if on then (0x88 + s.display.brightness) % 256 else 0x80)).setWidth 10, 0x200#10]
      faults := { s.faults with
        configRange := s.faults.configRange ||
          decide (7 < s.display.brightness ∨ s.display.maxDigits < 1 ∨ 4 < s.display.maxDigits) } }

/-- R136: UpdateDisplay is ExtractDigits, RoundDigits if fewer than four digits are shown, RenderFrame. It leaves the buffer
that the two leave, whatever was there before, issues the words of the three frames with that buffer composed, marks
CONFIG_RANGE when the configuration is out of range (its display-on byte then as log entry 27 has it), and changes nothing
else. -/
def Obligations.UpdateDisplayRendersTheValue : Prop :=
  ∀ (s : State) (value : BitVec 16), ∃ x : Quad Digit,
    (if s.display.maxDigits < 4 then (s.extractDigits value).roundDigits else s.extractDigits value).buffer = some x ∧
    s.updateDisplay value = { s with
      buffer := some x
      program := s.program ++ Sys2Proof.Spec.renderWords (compose s.display x)
        (BitVec.ofNat 8 ((0x88 + s.display.brightness) % 256))
      faults := { s.faults with
        configRange := s.faults.configRange || Sys2Proof.Spec.outOfRange s.display } }

/-! ## Executions -/

/-- R186, R83: from a state of the invariant with seq Idle every weakly fair execution reaches the end of the program, the
thread having taken at most 1 + 58 steps for each request still to come; an execution of interrupts alone exists from every
state and never ends the run. -/
def Obligations.EveryFairExecutionEnds : Prop :=
  (∀ (a : Nat → Agent) (σ : Nat → State), Execution a σ → WeaklyFair a σ → (σ 0).Inv → (σ 0).seq = .idle →
    ∃ n, (σ n).atEnd = true ∧ (∀ m, m < n → (σ m).atEnd = false) ∧
      threadSteps a n ≤ (1 + 58) * ((σ 0).program.length - (σ 0).pc)) ∧
  ∀ s : State, ∃ σ : Nat → State, σ 0 = s ∧ Execution (fun _ => .timer) σ ∧ ∀ n, (σ n).atEnd = s.atEnd
end

