-- ==== Sys2Proof/Laws/Actions.lean ====
section
/-! SUPPORT. The shape of the action lists (R100, R102, R112), and what the receiver's drive can be at an action. -/

namespace Sys2Proof.Machine

@[simp] theorem startActions_length (p : Params) :
    (startActions p).length = if p.startReleasesClk then 3 else 2 := by
  unfold startActions
  split <;> rfl

@[simp] theorem stopActions_length : stopActions.length = 6 := rfl

@[simp] theorem bitSlot_length (d : Byte) (i : Nat) : (bitSlot d i).length = 6 := rfl

@[simp] theorem ackSlot_length (acked trailing : Bool) :
    (ackSlot acked trailing).length = 8 + (if acked then 1 else 0) + (if trailing then 1 else 0) := by
  cases acked <;> cases trailing <;> rfl

@[simp] theorem writeActions_length (p : Params) (d : Byte) (asmp : Option Level) :
    (writeActions p d asmp).length =
      56 + (if acknowledged asmp then 1 else 0) + (if p.wbTrailingWait then 1 else 0) := by
  simp [writeActions]
  omega

/-- No list is longer than 58 (R21, R87). -/
theorem actionList_length_le (p : Params) (op : Op) (d : Byte) (asmp : Option Level) :
    (actionList p op d asmp).length ≤ 58 := by
  cases op with
  | start => simp only [actionList, startActions_length]; split <;> omega
  | stop => simp [actionList]
  | write => simp only [actionList, writeActions_length]; split <;> split <;> omega

/-- No list is empty. -/
theorem actionList_length_pos (p : Params) (op : Op) (d : Byte) (asmp : Option Level) :
    0 < (actionList p op d asmp).length := by
  cases op with
  | start => simp only [actionList, startActions_length]; split <;> omega
  | stop => simp [actionList]
  | write => simp only [actionList, writeActions_length]; omega

/-- A WRITE's first 54 actions do not depend on the sample (R86). -/
theorem writeActions_take_of_le (p : Params) (d : Byte) (a b : Option Level) (k : Nat) (h : k ≤ 54) :
    (writeActions p d a).take k = (writeActions p d b).take k := by
  have h54 : ∀ c : Option Level, (writeActions p d c).take 54 =
      (bitSlot d 0 ++ bitSlot d 1 ++ bitSlot d 2 ++ bitSlot d 3 ++ bitSlot d 4 ++ bitSlot d 5 ++ bitSlot d 6 ++ bitSlot d 7)
        ++ [.drv .clk, .rel .dio, .wait, .rel .clk, .wait, .rd] := by
    intro c
    rfl
  have : ∀ c : Option Level, (writeActions p d c).take k = ((writeActions p d c).take 54).take k := by
    intro c
    rw [List.take_take, Nat.min_eq_left h]
  rw [this a, this b, h54 a, h54 b]

/-- No bit slot reads. -/
theorem rd_not_mem_bitSlot (d : Byte) (i : Nat) : LineAction.rd ∉ bitSlot d i := by
  unfold bitSlot bitAction
  split <;> simp

/-- The acknowledgment slot reads at its index 5 only. -/
theorem ackSlot_rd : ∀ acked trailing : Bool, ∀ j, j < 10 → (ackSlot acked trailing)[j]? = some .rd → j = 5 := by
  decide

/-- The master reads only at WRITE index 53 (R91). -/
theorem actionList_rd (p : Params) (op : Op) (d : Byte) (asmp : Option Level) (k : Nat)
    (h : (actionList p op d asmp)[k]? = some .rd) : op = .write ∧ k = 53 := by
  have hmem := List.mem_of_getElem? h
  have hlt := (List.getElem?_eq_some_iff.mp h).1
  have hle := actionList_length_le p op d asmp
  cases op with
  | start =>
    simp only [actionList, startActions] at hmem
    split at hmem <;> simp at hmem
  | stop => simp [actionList, stopActions] at hmem
  | write =>
    refine ⟨rfl, ?_⟩
    simp only [actionList, writeActions] at h
    by_cases hk : k < 48
    · rw [List.getElem?_append_left (by simp; omega)] at h
      have := List.mem_of_getElem? h
      simp only [List.mem_append, rd_not_mem_bitSlot, or_self] at this
    · rw [List.getElem?_append_right (by simp; omega)] at h
      have := ackSlot_rd _ _ (k - 48) (by omega) (by simpa using h)
      omega

/-- Where the spec fixes the receiver's drive, that is the drive (R28, R118). -/
theorem receiverDrive_of_fixed {op : Op} {k : Nat} {asmp : Option Level} {v : Level} {d : Dir} (free : Dir)
    (h : receiverFixed op k asmp v = some d) : receiverDrive op k asmp v free = d := by
  simp [receiverDrive, h]

/-- Where it does not, the drive is the receiver's choice (R95). -/
theorem receiverDrive_of_choice {op : Op} {k : Nat} {asmp : Option Level} {v : Level} (free : Dir)
    (h : receiverFixed op k asmp v = none) : receiverDrive op k asmp v free = free := by
  simp [receiverDrive, h]

@[simp] theorem receiverDrive_start (k : Nat) (asmp : Option Level) (v : Level) (free : Dir) :
    receiverDrive .start k asmp v free = .released := rfl

@[simp] theorem receiverDrive_stop (k : Nat) (asmp : Option Level) (v : Level) (free : Dir) :
    receiverDrive .stop k asmp v free = .released := rfl

/-- Outside the ACK window the drive is fixed, and released (R28). -/
theorem receiverFixed_outside (op : Op) (k : Nat) (asmp : Option Level) (v : Level)
    (h : inAckWindow op k asmp = false) : receiverFixed op k asmp v = some .released := by
  cases op with
  | start => rfl
  | stop => rfl
  | write =>
    have hf : 55 ≤ finalDrvClk asmp := by
      unfold finalDrvClk
      split <;> omega
    by_cases hk : k ≤ 48
    · simp [receiverFixed, hk]
    · have hgt : finalDrvClk asmp < k := by
        simp [inAckWindow] at h
        exact h (by omega)
      simp [receiverFixed, hk, hgt, show ¬ k < 53 by omega, show ¬ k = 53 by omega]

/-- Inside the ACK window it is left to the receiver exactly before the sample, and after a sample that is not 0 until the
final DRV CLK (R95, R118). -/
theorem receiverFixed_eq_none_iff (op : Op) (k : Nat) (asmp : Option Level) (v : Level) :
    receiverFixed op k asmp v = none ↔
      op = .write ∧ 48 < k ∧ (k < 53 ∨ (k = 54 ∧ acknowledged asmp = false)) := by
  cases op with
  | start => simp [receiverFixed]
  | stop => simp [receiverFixed]
  | write =>
    cases ha : acknowledged asmp <;> simp only [receiverFixed, finalDrvClk, ha] <;> repeat' split
    all_goals simp_all
    all_goals omega

end Sys2Proof.Machine
end

