-- ==== Sys2Proof/Laws/Codec.lean ====
section
/-! SUPPORT. The decoder against the encoder, one small fact at a time. -/

namespace Sys2Proof

/-- The fields of a WRITE word (R66, R67). -/
theorem reqOp_write (d : Byte) : reqOp (0x300#10 ||| d.setWidth 10) = 0b11#2 := by
  unfold reqOp
  ext i hi
  have : i = 0 ∨ i = 1 := by omega
  rcases this with rfl | rfl <;> simp

theorem reqData_write (d : Byte) : reqData (0x300#10 ||| d.setWidth 10) = d := by
  unfold reqData
  ext i hi
  have : i = 0 ∨ i = 1 ∨ i = 2 ∨ i = 3 ∨ i = 4 ∨ i = 5 ∨ i = 6 ∨ i = 7 := by omega
  rcases this with rfl | rfl | rfl | rfl | rfl | rfl | rfl | rfl <;> simp

theorem decodeReq_write (d : Byte) : decodeReq (0x300#10 ||| d.setWidth 10) = .ok (.write d) := by
  simp only [decodeReq, reqOp_write, reqData_write, if_true]

end Sys2Proof
end

