-- ==== Sys2Proof/Laws/State.lean ====
section
/-! SUPPORT. One lemma per field per update of State: what each named operation of Ops.lean writes and what it leaves.
Each is true by unfolding the update, so that no later proof unfolds one. -/

namespace Sys2Proof.Machine

section setDir

@[simp] theorem State.setDir_dirs (s : State) (l : Line) (d : Dir) : (s.setDir l d).dirs = s.dirs.set l d := rfl
@[simp] theorem State.setDir_seq (s : State) (l : Line) (d : Dir) : (s.setDir l d).seq = s.seq := rfl
@[simp] theorem State.setDir_data (s : State) (l : Line) (d : Dir) : (s.setDir l d).data = s.data := rfl
@[simp] theorem State.setDir_asmp (s : State) (l : Line) (d : Dir) : (s.setDir l d).asmp = s.asmp := rfl
@[simp] theorem State.setDir_lastAck (s : State) (l : Line) (d : Dir) : (s.setDir l d).lastAck = s.lastAck := rfl
@[simp] theorem State.setDir_frameOpen (s : State) (l : Line) (d : Dir) : (s.setDir l d).frameOpen = s.frameOpen := rfl
@[simp] theorem State.setDir_faults (s : State) (l : Line) (d : Dir) : (s.setDir l d).faults = s.faults := rfl
@[simp] theorem State.setDir_trace (s : State) (l : Line) (d : Dir) : (s.setDir l d).trace = s.trace := rfl
@[simp] theorem State.setDir_pc (s : State) (l : Line) (d : Dir) : (s.setDir l d).pc = s.pc := rfl
@[simp] theorem State.setDir_program (s : State) (l : Line) (d : Dir) : (s.setDir l d).program = s.program := rfl
@[simp] theorem State.setDir_rxDio (s : State) (l : Line) (d : Dir) : (s.setDir l d).rxDio = s.rxDio := rfl
@[simp] theorem State.setDir_tick (s : State) (l : Line) (d : Dir) : (s.setDir l d).tick = s.tick := rfl
@[simp] theorem State.setDir_buffer (s : State) (l : Line) (d : Dir) : (s.setDir l d).buffer = s.buffer := rfl
@[simp] theorem State.setDir_display (s : State) (l : Line) (d : Dir) : (s.setDir l d).display = s.display := rfl
@[simp] theorem State.setDir_params (s : State) (l : Line) (d : Dir) : (s.setDir l d).params = s.params := rfl
@[simp] theorem State.setDir_sched (s : State) (l : Line) (d : Dir) : (s.setDir l d).sched = s.sched := rfl
@[simp] theorem State.setDir_turns (s : State) (l : Line) (d : Dir) : (s.setDir l d).turns = s.turns := rfl
@[simp] theorem State.setDir_answers (s : State) (l : Line) (d : Dir) : (s.setDir l d).answers = s.answers := rfl
@[simp] theorem State.setDir_draws (s : State) (l : Line) (d : Dir) : (s.setDir l d).draws = s.draws := rfl

end setDir

section emit

@[simp] theorem State.emit_dirs (s : State) (e : Event) : (s.emit e).dirs = s.dirs := rfl
@[simp] theorem State.emit_seq (s : State) (e : Event) : (s.emit e).seq = s.seq := rfl
@[simp] theorem State.emit_data (s : State) (e : Event) : (s.emit e).data = s.data := rfl
@[simp] theorem State.emit_asmp (s : State) (e : Event) : (s.emit e).asmp = s.asmp := rfl
@[simp] theorem State.emit_lastAck (s : State) (e : Event) : (s.emit e).lastAck = s.lastAck := rfl
@[simp] theorem State.emit_frameOpen (s : State) (e : Event) : (s.emit e).frameOpen = s.frameOpen := rfl
@[simp] theorem State.emit_faults (s : State) (e : Event) : (s.emit e).faults = s.faults := rfl
@[simp] theorem State.emit_trace (s : State) (e : Event) : (s.emit e).trace = s.trace ++ [e] := rfl
@[simp] theorem State.emit_pc (s : State) (e : Event) : (s.emit e).pc = s.pc := rfl
@[simp] theorem State.emit_program (s : State) (e : Event) : (s.emit e).program = s.program := rfl
@[simp] theorem State.emit_rxDio (s : State) (e : Event) : (s.emit e).rxDio = s.rxDio := rfl
@[simp] theorem State.emit_tick (s : State) (e : Event) : (s.emit e).tick = s.tick := rfl
@[simp] theorem State.emit_buffer (s : State) (e : Event) : (s.emit e).buffer = s.buffer := rfl
@[simp] theorem State.emit_display (s : State) (e : Event) : (s.emit e).display = s.display := rfl
@[simp] theorem State.emit_params (s : State) (e : Event) : (s.emit e).params = s.params := rfl
@[simp] theorem State.emit_sched (s : State) (e : Event) : (s.emit e).sched = s.sched := rfl
@[simp] theorem State.emit_turns (s : State) (e : Event) : (s.emit e).turns = s.turns := rfl
@[simp] theorem State.emit_answers (s : State) (e : Event) : (s.emit e).answers = s.answers := rfl
@[simp] theorem State.emit_draws (s : State) (e : Event) : (s.emit e).draws = s.draws := rfl

end emit

section raise

@[simp] theorem State.raise_dirs (s : State) (c : Cause) : (s.raise c).dirs = s.dirs := rfl
@[simp] theorem State.raise_seq (s : State) (c : Cause) : (s.raise c).seq = s.seq := rfl
@[simp] theorem State.raise_data (s : State) (c : Cause) : (s.raise c).data = s.data := rfl
@[simp] theorem State.raise_asmp (s : State) (c : Cause) : (s.raise c).asmp = s.asmp := rfl
@[simp] theorem State.raise_lastAck (s : State) (c : Cause) : (s.raise c).lastAck = s.lastAck := rfl
@[simp] theorem State.raise_frameOpen (s : State) (c : Cause) : (s.raise c).frameOpen = s.frameOpen := rfl
@[simp] theorem State.raise_faults (s : State) (c : Cause) : (s.raise c).faults = s.faults.set c := rfl
@[simp] theorem State.raise_trace (s : State) (c : Cause) : (s.raise c).trace = s.trace := rfl
@[simp] theorem State.raise_pc (s : State) (c : Cause) : (s.raise c).pc = s.pc := rfl
@[simp] theorem State.raise_program (s : State) (c : Cause) : (s.raise c).program = s.program := rfl
@[simp] theorem State.raise_rxDio (s : State) (c : Cause) : (s.raise c).rxDio = s.rxDio := rfl
@[simp] theorem State.raise_tick (s : State) (c : Cause) : (s.raise c).tick = s.tick := rfl
@[simp] theorem State.raise_buffer (s : State) (c : Cause) : (s.raise c).buffer = s.buffer := rfl
@[simp] theorem State.raise_display (s : State) (c : Cause) : (s.raise c).display = s.display := rfl
@[simp] theorem State.raise_params (s : State) (c : Cause) : (s.raise c).params = s.params := rfl
@[simp] theorem State.raise_sched (s : State) (c : Cause) : (s.raise c).sched = s.sched := rfl
@[simp] theorem State.raise_turns (s : State) (c : Cause) : (s.raise c).turns = s.turns := rfl
@[simp] theorem State.raise_answers (s : State) (c : Cause) : (s.raise c).answers = s.answers := rfl
@[simp] theorem State.raise_draws (s : State) (c : Cause) : (s.raise c).draws = s.draws := rfl

end raise

section advancePc

@[simp] theorem State.advancePc_dirs (s : State) : (s.advancePc).dirs = s.dirs := rfl
@[simp] theorem State.advancePc_seq (s : State) : (s.advancePc).seq = s.seq := rfl
@[simp] theorem State.advancePc_data (s : State) : (s.advancePc).data = s.data := rfl
@[simp] theorem State.advancePc_asmp (s : State) : (s.advancePc).asmp = s.asmp := rfl
@[simp] theorem State.advancePc_lastAck (s : State) : (s.advancePc).lastAck = s.lastAck := rfl
@[simp] theorem State.advancePc_frameOpen (s : State) : (s.advancePc).frameOpen = s.frameOpen := rfl
@[simp] theorem State.advancePc_faults (s : State) : (s.advancePc).faults = s.faults := rfl
@[simp] theorem State.advancePc_trace (s : State) : (s.advancePc).trace = s.trace := rfl
@[simp] theorem State.advancePc_pc (s : State) : (s.advancePc).pc = s.pc + 1 := rfl
@[simp] theorem State.advancePc_program (s : State) : (s.advancePc).program = s.program := rfl
@[simp] theorem State.advancePc_rxDio (s : State) : (s.advancePc).rxDio = s.rxDio := rfl
@[simp] theorem State.advancePc_tick (s : State) : (s.advancePc).tick = s.tick := rfl
@[simp] theorem State.advancePc_buffer (s : State) : (s.advancePc).buffer = s.buffer := rfl
@[simp] theorem State.advancePc_display (s : State) : (s.advancePc).display = s.display := rfl
@[simp] theorem State.advancePc_params (s : State) : (s.advancePc).params = s.params := rfl
@[simp] theorem State.advancePc_sched (s : State) : (s.advancePc).sched = s.sched := rfl
@[simp] theorem State.advancePc_turns (s : State) : (s.advancePc).turns = s.turns := rfl
@[simp] theorem State.advancePc_answers (s : State) : (s.advancePc).answers = s.answers := rfl
@[simp] theorem State.advancePc_draws (s : State) : (s.advancePc).draws = s.draws := rfl

end advancePc

section setSeq

@[simp] theorem State.setSeq_dirs (s : State) (q : Sequencer) : (s.setSeq q).dirs = s.dirs := rfl
@[simp] theorem State.setSeq_seq (s : State) (q : Sequencer) : (s.setSeq q).seq = q := rfl
@[simp] theorem State.setSeq_data (s : State) (q : Sequencer) : (s.setSeq q).data = s.data := rfl
@[simp] theorem State.setSeq_asmp (s : State) (q : Sequencer) : (s.setSeq q).asmp = s.asmp := rfl
@[simp] theorem State.setSeq_lastAck (s : State) (q : Sequencer) : (s.setSeq q).lastAck = s.lastAck := rfl
@[simp] theorem State.setSeq_frameOpen (s : State) (q : Sequencer) : (s.setSeq q).frameOpen = s.frameOpen := rfl
@[simp] theorem State.setSeq_faults (s : State) (q : Sequencer) : (s.setSeq q).faults = s.faults := rfl
@[simp] theorem State.setSeq_trace (s : State) (q : Sequencer) : (s.setSeq q).trace = s.trace := rfl
@[simp] theorem State.setSeq_pc (s : State) (q : Sequencer) : (s.setSeq q).pc = s.pc := rfl
@[simp] theorem State.setSeq_program (s : State) (q : Sequencer) : (s.setSeq q).program = s.program := rfl
@[simp] theorem State.setSeq_rxDio (s : State) (q : Sequencer) : (s.setSeq q).rxDio = s.rxDio := rfl
@[simp] theorem State.setSeq_tick (s : State) (q : Sequencer) : (s.setSeq q).tick = s.tick := rfl
@[simp] theorem State.setSeq_buffer (s : State) (q : Sequencer) : (s.setSeq q).buffer = s.buffer := rfl
@[simp] theorem State.setSeq_display (s : State) (q : Sequencer) : (s.setSeq q).display = s.display := rfl
@[simp] theorem State.setSeq_params (s : State) (q : Sequencer) : (s.setSeq q).params = s.params := rfl
@[simp] theorem State.setSeq_sched (s : State) (q : Sequencer) : (s.setSeq q).sched = s.sched := rfl
@[simp] theorem State.setSeq_turns (s : State) (q : Sequencer) : (s.setSeq q).turns = s.turns := rfl
@[simp] theorem State.setSeq_answers (s : State) (q : Sequencer) : (s.setSeq q).answers = s.answers := rfl
@[simp] theorem State.setSeq_draws (s : State) (q : Sequencer) : (s.setSeq q).draws = s.draws := rfl

end setSeq

section setFrameOpen

@[simp] theorem State.setFrameOpen_dirs (s : State) (b : Bool) : (s.setFrameOpen b).dirs = s.dirs := rfl
@[simp] theorem State.setFrameOpen_seq (s : State) (b : Bool) : (s.setFrameOpen b).seq = s.seq := rfl
@[simp] theorem State.setFrameOpen_data (s : State) (b : Bool) : (s.setFrameOpen b).data = s.data := rfl
@[simp] theorem State.setFrameOpen_asmp (s : State) (b : Bool) : (s.setFrameOpen b).asmp = s.asmp := rfl
@[simp] theorem State.setFrameOpen_lastAck (s : State) (b : Bool) : (s.setFrameOpen b).lastAck = s.lastAck := rfl
@[simp] theorem State.setFrameOpen_frameOpen (s : State) (b : Bool) : (s.setFrameOpen b).frameOpen = b := rfl
@[simp] theorem State.setFrameOpen_faults (s : State) (b : Bool) : (s.setFrameOpen b).faults = s.faults := rfl
@[simp] theorem State.setFrameOpen_trace (s : State) (b : Bool) : (s.setFrameOpen b).trace = s.trace := rfl
@[simp] theorem State.setFrameOpen_pc (s : State) (b : Bool) : (s.setFrameOpen b).pc = s.pc := rfl
@[simp] theorem State.setFrameOpen_program (s : State) (b : Bool) : (s.setFrameOpen b).program = s.program := rfl
@[simp] theorem State.setFrameOpen_rxDio (s : State) (b : Bool) : (s.setFrameOpen b).rxDio = s.rxDio := rfl
@[simp] theorem State.setFrameOpen_tick (s : State) (b : Bool) : (s.setFrameOpen b).tick = s.tick := rfl
@[simp] theorem State.setFrameOpen_buffer (s : State) (b : Bool) : (s.setFrameOpen b).buffer = s.buffer := rfl
@[simp] theorem State.setFrameOpen_display (s : State) (b : Bool) : (s.setFrameOpen b).display = s.display := rfl
@[simp] theorem State.setFrameOpen_params (s : State) (b : Bool) : (s.setFrameOpen b).params = s.params := rfl
@[simp] theorem State.setFrameOpen_sched (s : State) (b : Bool) : (s.setFrameOpen b).sched = s.sched := rfl
@[simp] theorem State.setFrameOpen_turns (s : State) (b : Bool) : (s.setFrameOpen b).turns = s.turns := rfl
@[simp] theorem State.setFrameOpen_answers (s : State) (b : Bool) : (s.setFrameOpen b).answers = s.answers := rfl
@[simp] theorem State.setFrameOpen_draws (s : State) (b : Bool) : (s.setFrameOpen b).draws = s.draws := rfl

end setFrameOpen

section latch

@[simp] theorem State.latch_dirs (s : State) (d : Byte) : (s.latch d).dirs = s.dirs := rfl
@[simp] theorem State.latch_seq (s : State) (d : Byte) : (s.latch d).seq = s.seq := rfl
@[simp] theorem State.latch_data (s : State) (d : Byte) : (s.latch d).data = some d := rfl
@[simp] theorem State.latch_asmp (s : State) (d : Byte) : (s.latch d).asmp = none := rfl
@[simp] theorem State.latch_lastAck (s : State) (d : Byte) : (s.latch d).lastAck = s.lastAck := rfl
@[simp] theorem State.latch_frameOpen (s : State) (d : Byte) : (s.latch d).frameOpen = s.frameOpen := rfl
@[simp] theorem State.latch_faults (s : State) (d : Byte) : (s.latch d).faults = s.faults := rfl
@[simp] theorem State.latch_trace (s : State) (d : Byte) : (s.latch d).trace = s.trace := rfl
@[simp] theorem State.latch_pc (s : State) (d : Byte) : (s.latch d).pc = s.pc := rfl
@[simp] theorem State.latch_program (s : State) (d : Byte) : (s.latch d).program = s.program := rfl
@[simp] theorem State.latch_rxDio (s : State) (d : Byte) : (s.latch d).rxDio = s.rxDio := rfl
@[simp] theorem State.latch_tick (s : State) (d : Byte) : (s.latch d).tick = s.tick := rfl
@[simp] theorem State.latch_buffer (s : State) (d : Byte) : (s.latch d).buffer = s.buffer := rfl
@[simp] theorem State.latch_display (s : State) (d : Byte) : (s.latch d).display = s.display := rfl
@[simp] theorem State.latch_params (s : State) (d : Byte) : (s.latch d).params = s.params := rfl
@[simp] theorem State.latch_sched (s : State) (d : Byte) : (s.latch d).sched = s.sched := rfl
@[simp] theorem State.latch_turns (s : State) (d : Byte) : (s.latch d).turns = s.turns := rfl
@[simp] theorem State.latch_answers (s : State) (d : Byte) : (s.latch d).answers = s.answers := rfl
@[simp] theorem State.latch_draws (s : State) (d : Byte) : (s.latch d).draws = s.draws := rfl

end latch

section setAsmp

@[simp] theorem State.setAsmp_dirs (s : State) (v : Level) : (s.setAsmp v).dirs = s.dirs := rfl
@[simp] theorem State.setAsmp_seq (s : State) (v : Level) : (s.setAsmp v).seq = s.seq := rfl
@[simp] theorem State.setAsmp_data (s : State) (v : Level) : (s.setAsmp v).data = s.data := rfl
@[simp] theorem State.setAsmp_asmp (s : State) (v : Level) : (s.setAsmp v).asmp = some v := rfl
@[simp] theorem State.setAsmp_lastAck (s : State) (v : Level) : (s.setAsmp v).lastAck = s.lastAck := rfl
@[simp] theorem State.setAsmp_frameOpen (s : State) (v : Level) : (s.setAsmp v).frameOpen = s.frameOpen := rfl
@[simp] theorem State.setAsmp_faults (s : State) (v : Level) : (s.setAsmp v).faults = s.faults := rfl
@[simp] theorem State.setAsmp_trace (s : State) (v : Level) : (s.setAsmp v).trace = s.trace := rfl
@[simp] theorem State.setAsmp_pc (s : State) (v : Level) : (s.setAsmp v).pc = s.pc := rfl
@[simp] theorem State.setAsmp_program (s : State) (v : Level) : (s.setAsmp v).program = s.program := rfl
@[simp] theorem State.setAsmp_rxDio (s : State) (v : Level) : (s.setAsmp v).rxDio = s.rxDio := rfl
@[simp] theorem State.setAsmp_tick (s : State) (v : Level) : (s.setAsmp v).tick = s.tick := rfl
@[simp] theorem State.setAsmp_buffer (s : State) (v : Level) : (s.setAsmp v).buffer = s.buffer := rfl
@[simp] theorem State.setAsmp_display (s : State) (v : Level) : (s.setAsmp v).display = s.display := rfl
@[simp] theorem State.setAsmp_params (s : State) (v : Level) : (s.setAsmp v).params = s.params := rfl
@[simp] theorem State.setAsmp_sched (s : State) (v : Level) : (s.setAsmp v).sched = s.sched := rfl
@[simp] theorem State.setAsmp_turns (s : State) (v : Level) : (s.setAsmp v).turns = s.turns := rfl
@[simp] theorem State.setAsmp_answers (s : State) (v : Level) : (s.setAsmp v).answers = s.answers := rfl
@[simp] theorem State.setAsmp_draws (s : State) (v : Level) : (s.setAsmp v).draws = s.draws := rfl

end setAsmp

section setLastAck

@[simp] theorem State.setLastAck_dirs (s : State) (b : Bool) : (s.setLastAck b).dirs = s.dirs := rfl
@[simp] theorem State.setLastAck_seq (s : State) (b : Bool) : (s.setLastAck b).seq = s.seq := rfl
@[simp] theorem State.setLastAck_data (s : State) (b : Bool) : (s.setLastAck b).data = s.data := rfl
@[simp] theorem State.setLastAck_asmp (s : State) (b : Bool) : (s.setLastAck b).asmp = s.asmp := rfl
@[simp] theorem State.setLastAck_lastAck (s : State) (b : Bool) : (s.setLastAck b).lastAck = some b := rfl
@[simp] theorem State.setLastAck_frameOpen (s : State) (b : Bool) : (s.setLastAck b).frameOpen = s.frameOpen := rfl
@[simp] theorem State.setLastAck_faults (s : State) (b : Bool) : (s.setLastAck b).faults = s.faults := rfl
@[simp] theorem State.setLastAck_trace (s : State) (b : Bool) : (s.setLastAck b).trace = s.trace := rfl
@[simp] theorem State.setLastAck_pc (s : State) (b : Bool) : (s.setLastAck b).pc = s.pc := rfl
@[simp] theorem State.setLastAck_program (s : State) (b : Bool) : (s.setLastAck b).program = s.program := rfl
@[simp] theorem State.setLastAck_rxDio (s : State) (b : Bool) : (s.setLastAck b).rxDio = s.rxDio := rfl
@[simp] theorem State.setLastAck_tick (s : State) (b : Bool) : (s.setLastAck b).tick = s.tick := rfl
@[simp] theorem State.setLastAck_buffer (s : State) (b : Bool) : (s.setLastAck b).buffer = s.buffer := rfl
@[simp] theorem State.setLastAck_display (s : State) (b : Bool) : (s.setLastAck b).display = s.display := rfl
@[simp] theorem State.setLastAck_params (s : State) (b : Bool) : (s.setLastAck b).params = s.params := rfl
@[simp] theorem State.setLastAck_sched (s : State) (b : Bool) : (s.setLastAck b).sched = s.sched := rfl
@[simp] theorem State.setLastAck_turns (s : State) (b : Bool) : (s.setLastAck b).turns = s.turns := rfl
@[simp] theorem State.setLastAck_answers (s : State) (b : Bool) : (s.setLastAck b).answers = s.answers := rfl
@[simp] theorem State.setLastAck_draws (s : State) (b : Bool) : (s.setLastAck b).draws = s.draws := rfl

end setLastAck

section setRx

@[simp] theorem State.setRx_dirs (s : State) (d : Dir) : (s.setRx d).dirs = s.dirs := rfl
@[simp] theorem State.setRx_seq (s : State) (d : Dir) : (s.setRx d).seq = s.seq := rfl
@[simp] theorem State.setRx_data (s : State) (d : Dir) : (s.setRx d).data = s.data := rfl
@[simp] theorem State.setRx_asmp (s : State) (d : Dir) : (s.setRx d).asmp = s.asmp := rfl
@[simp] theorem State.setRx_lastAck (s : State) (d : Dir) : (s.setRx d).lastAck = s.lastAck := rfl
@[simp] theorem State.setRx_frameOpen (s : State) (d : Dir) : (s.setRx d).frameOpen = s.frameOpen := rfl
@[simp] theorem State.setRx_faults (s : State) (d : Dir) : (s.setRx d).faults = s.faults := rfl
@[simp] theorem State.setRx_trace (s : State) (d : Dir) : (s.setRx d).trace = s.trace := rfl
@[simp] theorem State.setRx_pc (s : State) (d : Dir) : (s.setRx d).pc = s.pc := rfl
@[simp] theorem State.setRx_program (s : State) (d : Dir) : (s.setRx d).program = s.program := rfl
@[simp] theorem State.setRx_rxDio (s : State) (d : Dir) : (s.setRx d).rxDio = d := rfl
@[simp] theorem State.setRx_tick (s : State) (d : Dir) : (s.setRx d).tick = s.tick := rfl
@[simp] theorem State.setRx_buffer (s : State) (d : Dir) : (s.setRx d).buffer = s.buffer := rfl
@[simp] theorem State.setRx_display (s : State) (d : Dir) : (s.setRx d).display = s.display := rfl
@[simp] theorem State.setRx_params (s : State) (d : Dir) : (s.setRx d).params = s.params := rfl
@[simp] theorem State.setRx_sched (s : State) (d : Dir) : (s.setRx d).sched = s.sched := rfl
@[simp] theorem State.setRx_turns (s : State) (d : Dir) : (s.setRx d).turns = s.turns := rfl
@[simp] theorem State.setRx_answers (s : State) (d : Dir) : (s.setRx d).answers = s.answers := rfl
@[simp] theorem State.setRx_draws (s : State) (d : Dir) : (s.setRx d).draws = s.draws := rfl

end setRx

section setTick

@[simp] theorem State.setTick_dirs (s : State) (b : Bool) : (s.setTick b).dirs = s.dirs := rfl
@[simp] theorem State.setTick_seq (s : State) (b : Bool) : (s.setTick b).seq = s.seq := rfl
@[simp] theorem State.setTick_data (s : State) (b : Bool) : (s.setTick b).data = s.data := rfl
@[simp] theorem State.setTick_asmp (s : State) (b : Bool) : (s.setTick b).asmp = s.asmp := rfl
@[simp] theorem State.setTick_lastAck (s : State) (b : Bool) : (s.setTick b).lastAck = s.lastAck := rfl
@[simp] theorem State.setTick_frameOpen (s : State) (b : Bool) : (s.setTick b).frameOpen = s.frameOpen := rfl
@[simp] theorem State.setTick_faults (s : State) (b : Bool) : (s.setTick b).faults = s.faults := rfl
@[simp] theorem State.setTick_trace (s : State) (b : Bool) : (s.setTick b).trace = s.trace := rfl
@[simp] theorem State.setTick_pc (s : State) (b : Bool) : (s.setTick b).pc = s.pc := rfl
@[simp] theorem State.setTick_program (s : State) (b : Bool) : (s.setTick b).program = s.program := rfl
@[simp] theorem State.setTick_rxDio (s : State) (b : Bool) : (s.setTick b).rxDio = s.rxDio := rfl
@[simp] theorem State.setTick_tick (s : State) (b : Bool) : (s.setTick b).tick = b := rfl
@[simp] theorem State.setTick_buffer (s : State) (b : Bool) : (s.setTick b).buffer = s.buffer := rfl
@[simp] theorem State.setTick_display (s : State) (b : Bool) : (s.setTick b).display = s.display := rfl
@[simp] theorem State.setTick_params (s : State) (b : Bool) : (s.setTick b).params = s.params := rfl
@[simp] theorem State.setTick_sched (s : State) (b : Bool) : (s.setTick b).sched = s.sched := rfl
@[simp] theorem State.setTick_turns (s : State) (b : Bool) : (s.setTick b).turns = s.turns := rfl
@[simp] theorem State.setTick_answers (s : State) (b : Bool) : (s.setTick b).answers = s.answers := rfl
@[simp] theorem State.setTick_draws (s : State) (b : Bool) : (s.setTick b).draws = s.draws := rfl

end setTick

section issue

@[simp] theorem State.issue_dirs (s : State) (ws : List ReqWord) : (s.issue ws).dirs = s.dirs := rfl
@[simp] theorem State.issue_seq (s : State) (ws : List ReqWord) : (s.issue ws).seq = s.seq := rfl
@[simp] theorem State.issue_data (s : State) (ws : List ReqWord) : (s.issue ws).data = s.data := rfl
@[simp] theorem State.issue_asmp (s : State) (ws : List ReqWord) : (s.issue ws).asmp = s.asmp := rfl
@[simp] theorem State.issue_lastAck (s : State) (ws : List ReqWord) : (s.issue ws).lastAck = s.lastAck := rfl
@[simp] theorem State.issue_frameOpen (s : State) (ws : List ReqWord) : (s.issue ws).frameOpen = s.frameOpen := rfl
@[simp] theorem State.issue_faults (s : State) (ws : List ReqWord) : (s.issue ws).faults = s.faults := rfl
@[simp] theorem State.issue_trace (s : State) (ws : List ReqWord) : (s.issue ws).trace = s.trace := rfl
@[simp] theorem State.issue_pc (s : State) (ws : List ReqWord) : (s.issue ws).pc = s.pc := rfl
@[simp] theorem State.issue_program (s : State) (ws : List ReqWord) : (s.issue ws).program = s.program ++ ws := rfl
@[simp] theorem State.issue_rxDio (s : State) (ws : List ReqWord) : (s.issue ws).rxDio = s.rxDio := rfl
@[simp] theorem State.issue_tick (s : State) (ws : List ReqWord) : (s.issue ws).tick = s.tick := rfl
@[simp] theorem State.issue_buffer (s : State) (ws : List ReqWord) : (s.issue ws).buffer = s.buffer := rfl
@[simp] theorem State.issue_display (s : State) (ws : List ReqWord) : (s.issue ws).display = s.display := rfl
@[simp] theorem State.issue_params (s : State) (ws : List ReqWord) : (s.issue ws).params = s.params := rfl
@[simp] theorem State.issue_sched (s : State) (ws : List ReqWord) : (s.issue ws).sched = s.sched := rfl
@[simp] theorem State.issue_turns (s : State) (ws : List ReqWord) : (s.issue ws).turns = s.turns := rfl
@[simp] theorem State.issue_answers (s : State) (ws : List ReqWord) : (s.issue ws).answers = s.answers := rfl
@[simp] theorem State.issue_draws (s : State) (ws : List ReqWord) : (s.issue ws).draws = s.draws := rfl

end issue

section setBuffer

@[simp] theorem State.setBuffer_dirs (s : State) (x : Quad Digit) : (s.setBuffer x).dirs = s.dirs := rfl
@[simp] theorem State.setBuffer_seq (s : State) (x : Quad Digit) : (s.setBuffer x).seq = s.seq := rfl
@[simp] theorem State.setBuffer_data (s : State) (x : Quad Digit) : (s.setBuffer x).data = s.data := rfl
@[simp] theorem State.setBuffer_asmp (s : State) (x : Quad Digit) : (s.setBuffer x).asmp = s.asmp := rfl
@[simp] theorem State.setBuffer_lastAck (s : State) (x : Quad Digit) : (s.setBuffer x).lastAck = s.lastAck := rfl
@[simp] theorem State.setBuffer_frameOpen (s : State) (x : Quad Digit) : (s.setBuffer x).frameOpen = s.frameOpen := rfl
@[simp] theorem State.setBuffer_faults (s : State) (x : Quad Digit) : (s.setBuffer x).faults = s.faults := rfl
@[simp] theorem State.setBuffer_trace (s : State) (x : Quad Digit) : (s.setBuffer x).trace = s.trace := rfl
@[simp] theorem State.setBuffer_pc (s : State) (x : Quad Digit) : (s.setBuffer x).pc = s.pc := rfl
@[simp] theorem State.setBuffer_program (s : State) (x : Quad Digit) : (s.setBuffer x).program = s.program := rfl
@[simp] theorem State.setBuffer_rxDio (s : State) (x : Quad Digit) : (s.setBuffer x).rxDio = s.rxDio := rfl
@[simp] theorem State.setBuffer_tick (s : State) (x : Quad Digit) : (s.setBuffer x).tick = s.tick := rfl
@[simp] theorem State.setBuffer_buffer (s : State) (x : Quad Digit) : (s.setBuffer x).buffer = some x := rfl
@[simp] theorem State.setBuffer_display (s : State) (x : Quad Digit) : (s.setBuffer x).display = s.display := rfl
@[simp] theorem State.setBuffer_params (s : State) (x : Quad Digit) : (s.setBuffer x).params = s.params := rfl
@[simp] theorem State.setBuffer_sched (s : State) (x : Quad Digit) : (s.setBuffer x).sched = s.sched := rfl
@[simp] theorem State.setBuffer_turns (s : State) (x : Quad Digit) : (s.setBuffer x).turns = s.turns := rfl
@[simp] theorem State.setBuffer_answers (s : State) (x : Quad Digit) : (s.setBuffer x).answers = s.answers := rfl
@[simp] theorem State.setBuffer_draws (s : State) (x : Quad Digit) : (s.setBuffer x).draws = s.draws := rfl

end setBuffer

section takeTurn

@[simp] theorem State.takeTurn_dirs (s : State) : (s.takeTurn).dirs = s.dirs := rfl
@[simp] theorem State.takeTurn_seq (s : State) : (s.takeTurn).seq = s.seq := rfl
@[simp] theorem State.takeTurn_data (s : State) : (s.takeTurn).data = s.data := rfl
@[simp] theorem State.takeTurn_asmp (s : State) : (s.takeTurn).asmp = s.asmp := rfl
@[simp] theorem State.takeTurn_lastAck (s : State) : (s.takeTurn).lastAck = s.lastAck := rfl
@[simp] theorem State.takeTurn_frameOpen (s : State) : (s.takeTurn).frameOpen = s.frameOpen := rfl
@[simp] theorem State.takeTurn_faults (s : State) : (s.takeTurn).faults = s.faults := rfl
@[simp] theorem State.takeTurn_trace (s : State) : (s.takeTurn).trace = s.trace := rfl
@[simp] theorem State.takeTurn_pc (s : State) : (s.takeTurn).pc = s.pc := rfl
@[simp] theorem State.takeTurn_program (s : State) : (s.takeTurn).program = s.program := rfl
@[simp] theorem State.takeTurn_rxDio (s : State) : (s.takeTurn).rxDio = s.rxDio := rfl
@[simp] theorem State.takeTurn_tick (s : State) : (s.takeTurn).tick = s.tick := rfl
@[simp] theorem State.takeTurn_buffer (s : State) : (s.takeTurn).buffer = s.buffer := rfl
@[simp] theorem State.takeTurn_display (s : State) : (s.takeTurn).display = s.display := rfl
@[simp] theorem State.takeTurn_params (s : State) : (s.takeTurn).params = s.params := rfl
@[simp] theorem State.takeTurn_sched (s : State) : (s.takeTurn).sched = s.sched.tail := rfl
@[simp] theorem State.takeTurn_turns (s : State) : (s.takeTurn).turns = s.turns + 1 := rfl
@[simp] theorem State.takeTurn_answers (s : State) : (s.takeTurn).answers = s.answers := rfl
@[simp] theorem State.takeTurn_draws (s : State) : (s.takeTurn).draws = s.draws := rfl

end takeTurn

section takeDraw

@[simp] theorem State.takeDraw_dirs (s : State) (a : LineAction) : (s.takeDraw a).dirs = s.dirs := rfl
@[simp] theorem State.takeDraw_seq (s : State) (a : LineAction) : (s.takeDraw a).seq = s.seq := rfl
@[simp] theorem State.takeDraw_data (s : State) (a : LineAction) : (s.takeDraw a).data = s.data := rfl
@[simp] theorem State.takeDraw_asmp (s : State) (a : LineAction) : (s.takeDraw a).asmp = s.asmp := rfl
@[simp] theorem State.takeDraw_lastAck (s : State) (a : LineAction) : (s.takeDraw a).lastAck = s.lastAck := rfl
@[simp] theorem State.takeDraw_frameOpen (s : State) (a : LineAction) : (s.takeDraw a).frameOpen = s.frameOpen := rfl
@[simp] theorem State.takeDraw_faults (s : State) (a : LineAction) : (s.takeDraw a).faults = s.faults := rfl
@[simp] theorem State.takeDraw_trace (s : State) (a : LineAction) : (s.takeDraw a).trace = s.trace := rfl
@[simp] theorem State.takeDraw_pc (s : State) (a : LineAction) : (s.takeDraw a).pc = s.pc := rfl
@[simp] theorem State.takeDraw_program (s : State) (a : LineAction) : (s.takeDraw a).program = s.program := rfl
@[simp] theorem State.takeDraw_rxDio (s : State) (a : LineAction) : (s.takeDraw a).rxDio = s.rxDio := rfl
@[simp] theorem State.takeDraw_tick (s : State) (a : LineAction) : (s.takeDraw a).tick = s.tick := rfl
@[simp] theorem State.takeDraw_buffer (s : State) (a : LineAction) : (s.takeDraw a).buffer = s.buffer := rfl
@[simp] theorem State.takeDraw_display (s : State) (a : LineAction) : (s.takeDraw a).display = s.display := rfl
@[simp] theorem State.takeDraw_params (s : State) (a : LineAction) : (s.takeDraw a).params = s.params := rfl
@[simp] theorem State.takeDraw_sched (s : State) (a : LineAction) : (s.takeDraw a).sched = s.sched := rfl
@[simp] theorem State.takeDraw_turns (s : State) (a : LineAction) : (s.takeDraw a).turns = s.turns := rfl
@[simp] theorem State.takeDraw_answers (s : State) (a : LineAction) : (s.takeDraw a).answers = if a = .rd then s.answers.tail else s.answers := rfl
@[simp] theorem State.takeDraw_draws (s : State) (a : LineAction) : (s.takeDraw a).draws = s.draws + 1 := rfl

end takeDraw

section raiseIf

@[simp] theorem State.raiseIf_dirs (s : State) (b : Bool) (c : Cause) : (s.raiseIf b c).dirs = s.dirs := by
  cases b <;> rfl
@[simp] theorem State.raiseIf_seq (s : State) (b : Bool) (c : Cause) : (s.raiseIf b c).seq = s.seq := by
  cases b <;> rfl
@[simp] theorem State.raiseIf_data (s : State) (b : Bool) (c : Cause) : (s.raiseIf b c).data = s.data := by
  cases b <;> rfl
@[simp] theorem State.raiseIf_asmp (s : State) (b : Bool) (c : Cause) : (s.raiseIf b c).asmp = s.asmp := by
  cases b <;> rfl
@[simp] theorem State.raiseIf_lastAck (s : State) (b : Bool) (c : Cause) : (s.raiseIf b c).lastAck = s.lastAck := by
  cases b <;> rfl
@[simp] theorem State.raiseIf_frameOpen (s : State) (b : Bool) (c : Cause) : (s.raiseIf b c).frameOpen = s.frameOpen := by
  cases b <;> rfl
@[simp] theorem State.raiseIf_faults (s : State) (b : Bool) (c : Cause) :
    (s.raiseIf b c).faults = if b then s.faults.set c else s.faults := by
  cases b <;> rfl
@[simp] theorem State.raiseIf_trace (s : State) (b : Bool) (c : Cause) : (s.raiseIf b c).trace = s.trace := by
  cases b <;> rfl
@[simp] theorem State.raiseIf_pc (s : State) (b : Bool) (c : Cause) : (s.raiseIf b c).pc = s.pc := by
  cases b <;> rfl
@[simp] theorem State.raiseIf_program (s : State) (b : Bool) (c : Cause) : (s.raiseIf b c).program = s.program := by
  cases b <;> rfl
@[simp] theorem State.raiseIf_rxDio (s : State) (b : Bool) (c : Cause) : (s.raiseIf b c).rxDio = s.rxDio := by
  cases b <;> rfl
@[simp] theorem State.raiseIf_tick (s : State) (b : Bool) (c : Cause) : (s.raiseIf b c).tick = s.tick := by
  cases b <;> rfl
@[simp] theorem State.raiseIf_buffer (s : State) (b : Bool) (c : Cause) : (s.raiseIf b c).buffer = s.buffer := by
  cases b <;> rfl
@[simp] theorem State.raiseIf_display (s : State) (b : Bool) (c : Cause) : (s.raiseIf b c).display = s.display := by
  cases b <;> rfl
@[simp] theorem State.raiseIf_params (s : State) (b : Bool) (c : Cause) : (s.raiseIf b c).params = s.params := by
  cases b <;> rfl
@[simp] theorem State.raiseIf_sched (s : State) (b : Bool) (c : Cause) : (s.raiseIf b c).sched = s.sched := by
  cases b <;> rfl
@[simp] theorem State.raiseIf_turns (s : State) (b : Bool) (c : Cause) : (s.raiseIf b c).turns = s.turns := by
  cases b <;> rfl
@[simp] theorem State.raiseIf_answers (s : State) (b : Bool) (c : Cause) : (s.raiseIf b c).answers = s.answers := by
  cases b <;> rfl
@[simp] theorem State.raiseIf_draws (s : State) (b : Bool) (c : Cause) : (s.raiseIf b c).draws = s.draws := by
  cases b <;> rfl

end raiseIf

end Sys2Proof.Machine
end

