-- ==== Sys2Proof/Laws/Ops.lean ====
section
/-! SUPPORT. The small lemmas of the registers, and for each shared operation the one lemma that says everything it can
do; proofs cite these and do not unfold the operation. -/

namespace Sys2Proof.Machine

@[simp] theorem Dirs.get_set_same (d : Dirs) (l : Line) (v : Dir) : (d.set l v).get l = v := by
  cases l <;> rfl

theorem Dirs.get_set_other (d : Dirs) (l m : Line) (v : Dir) (h : m ≠ l) : (d.set l v).get m = d.get m := by
  cases l <;> cases m <;> first | rfl | exact absurd rfl h

@[simp] theorem FaultBits.get_set (f : FaultBits) (c d : Cause) :
    (f.set c).get d = (decide (d = c) || f.get d) := by
  cases c <;> cases d <;> simp [FaultBits.set, FaultBits.get]

theorem FaultBits.le_refl (f : FaultBits) : f.le f :=
  fun _ h => h

theorem FaultBits.le_trans (f g h : FaultBits) (hfg : f.le g) (hgh : g.le h) : f.le h :=
  fun c hc => hgh c (hfg c hc)

theorem FaultBits.le_set (f : FaultBits) (c : Cause) : f.le (f.set c) := by
  intro d hd
  simp [hd]

theorem State.raiseIf_le (s : State) (b : Bool) (c : Cause) : s.faults.le (s.raiseIf b c).faults := by
  cases b
  · exact FaultBits.le_refl _
  · exact FaultBits.le_set _ _

theorem FaultBits.clear_iff (f : FaultBits) : f.clear = true ↔ f = FaultBits.none := by
  cases f
  simp [FaultBits.clear, FaultBits.none, and_assoc]

/-- Acceptance (R84): a next state comes only from Idle, and is this one. -/
theorem acceptRequest_next (op : Op) (u : State → State) (s t : State) (h : acceptRequest op u s = .next t) :
    s.seq = .idle ∧ t = (u (s.advancePc.framingCheck op)).setSeq (.run op 0) := by
  unfold acceptRequest at h
  split at h
  · rename_i hs
    exact ⟨hs, by injection h with h; exact h.symm⟩
  · cases h

/-- Acceptance from Idle always answers. -/
theorem acceptRequest_idle (op : Op) (u : State → State) (s : State) (h : s.seq = .idle) :
    acceptRequest op u s = .next ((u (s.advancePc.framingCheck op)).setSeq (.run op 0)) := by
  simp [acceptRequest, h]

/-- What a line action does (R89 to R92): the directions follow its event, a read writes ASMP, and the event is
appended; a read needs DIO released. -/
theorem exec_action (a : LineAction) (v : Level) (s : State) (h : a = .rd → s.dirs.dio = .released) :
    exec (a.instr v) s = .next { s with
      dirs := s.dirs.after (a.event v)
      asmp := if a = .rd then some v else s.asmp
      trace := s.trace ++ [a.event v] } := by
  cases a with
  | drv l => cases l <;> rfl
  | rel l => cases l <;> rfl
  | rd => simp [LineAction.instr, LineAction.event, Event.instr, exec, execRdDio, h rfl]; rfl
  | wait => rfl

/-- What a line action did, if it answers. -/
theorem exec_action_next (a : LineAction) (v : Level) (s t : State) (h : exec (a.instr v) s = .next t) :
    (a = .rd → s.dirs.dio = .released) ∧ t = { s with
      dirs := s.dirs.after (a.event v)
      asmp := if a = .rd then some v else s.asmp
      trace := s.trace ++ [a.event v] } := by
  have hrd : a = .rd → s.dirs.dio = .released := by
    rintro rfl
    simp only [LineAction.instr, LineAction.event, Event.instr, exec, execRdDio] at h
    split at h
    · assumption
    · cases h
  refine ⟨hrd, ?_⟩
  rw [exec_action a v s hrd] at h
  injection h with h
  exact h.symm

/-- What a request does, if it answers: it was accepted from Idle (R84), and exactly this is written. -/
theorem exec_request_next (i : Instr) (s t : State) (hi : i.format = .req) (h : exec i s = .next t) :
    s.seq = .idle ∧
      ((i = .start ∧ t = ((s.advancePc.framingCheck .start).setFrameOpen true).setSeq (.run .start 0)) ∨
       (i = .stop ∧ t = ((s.advancePc.framingCheck .stop).setFrameOpen false).setSeq (.run .stop 0)) ∨
       (∃ d, i = .write d ∧ t = ((s.advancePc.framingCheck .write).latch d).setSeq (.run .write 0))) := by
  cases i with
  | start =>
    have := acceptRequest_next .start (fun t => t.setFrameOpen true) s t h
    exact ⟨this.1, .inl ⟨rfl, this.2⟩⟩
  | stop =>
    have := acceptRequest_next .stop (fun t => t.setFrameOpen false) s t h
    exact ⟨this.1, .inr (.inl ⟨rfl, this.2⟩)⟩
  | write d =>
    have := acceptRequest_next .write (fun t => t.latch d) s t h
    exact ⟨this.1, .inr (.inr ⟨d, rfl, this.2⟩)⟩
  | drvClk => cases hi
  | drvDio => cases hi
  | relClk => cases hi
  | relDio => cases hi
  | rdDio v => cases hi
  | wait => cases hi

/-- The decoder of the request port answers only requests (R64). -/
theorem decodeReq_format (w : ReqWord) (i : Instr) (h : decode (.req w) = .ok i) : i.format = .req := by
  simp only [decode, decodeReq] at h
  split at h
  · cases h; rfl
  · split at h
    · split at h
      · cases h; rfl
      · cases h
    · split at h
      · split at h
        · cases h; rfl
        · cases h
      · cases h

/-- What advancing the sequencer writes (R86): SEQ, and LAST_ACK at a WRITE's completion. -/
theorem State.advanceSeq_eq (s : State) (op : Op) (k : Nat) :
    s.advanceSeq op k = { s with
      seq := if k + 1 = (s.actions op).length then .idle else .run op (k + 1)
      lastAck := if k + 1 = (s.actions op).length ∧ op = .write then some (acknowledged s.asmp) else s.lastAck } := by
  unfold State.advanceSeq
  by_cases hk : k + 1 = (s.actions op).length
  · by_cases ho : op = .write
    · simp [hk, ho, State.recordAck, State.setLastAck, State.setSeq]
    · simp [hk, ho, State.setSeq]
  · simp [hk, State.setSeq]

/-- The end of a run writes only the FRAMING bit (R185). -/
theorem State.endRun_eq (s : State) :
    s.endRun = { s with faults := if s.frameOpen then s.faults.set .framing else s.faults } := by
  unfold State.endRun
  cases hf : s.frameOpen
  · cases s
    cases hf
    rfl
  · cases s
    cases hf
    rfl

/-- What the master step can do (R86). -/
theorem masterStep_next (op : Op) (k : Nat) (s t : State) (h : masterStep op k s = .next t) :
    ∃ a, (s.actions op)[k]? = some a ∧ (a = .rd → s.dirs.dio = .released) ∧
      t = ({ s.meetReceiver op k a with
        dirs := s.dirs.after (a.event s.answer)
        asmp := if a = .rd then some s.answer else s.asmp
        trace := s.trace ++ [a.event s.answer] } : State).advanceSeq op k := by
  unfold masterStep at h
  split at h
  · rename_i a ha
    refine ⟨a, ha, ?_⟩
    cases hx : exec (a.instr s.answer) (s.meetReceiver op k a) with
    | next u =>
      have hu := exec_action_next _ _ _ _ hx
      rw [hx] at h
      injection h with h
      exact ⟨hu.1, by rw [← h, hu.2]; rfl⟩
    | fault r => rw [hx] at h; cases h
    | refused r => rw [hx] at h; cases h
  · cases h

/-- When the master step answers, and with what (R86, R87). -/
theorem masterStep_eq (op : Op) (k : Nat) (s : State) (a : LineAction) (ha : (s.actions op)[k]? = some a)
    (hrd : a = .rd → s.dirs.dio = .released) :
    masterStep op k s = .next (({ s.meetReceiver op k a with
      dirs := s.dirs.after (a.event s.answer)
      asmp := if a = .rd then some s.answer else s.asmp
      trace := s.trace ++ [a.event s.answer] } : State).advanceSeq op k) := by
  simp only [masterStep, ha]
  rw [exec_action a s.answer (s.meetReceiver op k a) hrd]
  rfl

/-- What acceptance of a word can do (R84): run the decoded request, or refuse the word. -/
theorem accept_cases (w : ReqWord) (s : State) :
    (∃ i, decode (.req w) = .ok i ∧ accept w s = exec i s) ∨
    (∃ e, decode (.req w) = .error e ∧ accept w s = .next s.refuseWord) := by
  unfold accept
  cases h : decode (.req w) with
  | ok i => exact .inl ⟨i, rfl, rfl⟩
  | error e => exact .inr ⟨e, rfl, rfl⟩

/-- What the thread's step can do (R83). -/
theorem threadStep_cases (s : State) :
    (∃ op k, s.seq = .run op k ∧ threadStep s = masterStep op k s) ∨
    (∃ w, s.seq = .idle ∧ s.fetch = some w ∧ threadStep s = accept w s) ∨
    (s.seq = .idle ∧ s.fetch = none ∧ threadStep s = .next s.endRun) := by
  unfold threadStep
  cases hq : s.seq with
  | run op k => exact .inl ⟨op, k, rfl, rfl⟩
  | idle =>
    cases hf : s.fetch with
    | some w => exact .inr (.inl ⟨w, rfl, rfl, rfl⟩)
    | none => exact .inr (.inr ⟨rfl, rfl, rfl⟩)

/-- What one step can do (R83): the timer's, or the thread's. -/
theorem step_cases (s : State) :
    (s.agent = .timer ∧ step s = .next s.takeTurn.timerInterrupt) ∨
    (s.agent = .thread ∧ step s = threadStep s.takeTurn) := by
  unfold step
  cases h : s.agent with
  | timer => exact .inl ⟨rfl, rfl⟩
  | thread => exact .inr ⟨rfl, rfl⟩

end Sys2Proof.Machine
end

