-- ==== Sys2Proof/Laws/PerInstr.lean ====
section
/-! SUPPORT. The statement made for every instruction: its word, found in its own format, decodes to it, and it is well
formed in that format and in no other. -/

namespace Sys2Proof

/-- The codec is right at an instruction. -/
def Laws.Codec.Statement (i : Instr) : Prop :=
  (encode i).format = i.format ∧ decode (encode i) = .ok i ∧
    ∀ f : Format, i.wellFormedIn f = true ↔ f = (encode i).format

theorem Laws.Codec.start : Laws.Codec.Statement .start :=
  ⟨rfl, rfl, fun f => by cases f <;> decide⟩

theorem Laws.Codec.stop : Laws.Codec.Statement .stop :=
  ⟨rfl, rfl, fun f => by cases f <;> decide⟩

theorem Laws.Codec.write (d : Byte) : Laws.Codec.Statement (.write d) :=
  ⟨rfl, decodeReq_write d, fun f => by cases f <;> simp [Instr.wellFormedIn, Instr.format, encode, CodeWord.format]⟩

theorem Laws.Codec.drvClk : Laws.Codec.Statement .drvClk :=
  ⟨rfl, rfl, fun f => by cases f <;> decide⟩

theorem Laws.Codec.drvDio : Laws.Codec.Statement .drvDio :=
  ⟨rfl, rfl, fun f => by cases f <;> decide⟩

theorem Laws.Codec.relClk : Laws.Codec.Statement .relClk :=
  ⟨rfl, rfl, fun f => by cases f <;> decide⟩

theorem Laws.Codec.relDio : Laws.Codec.Statement .relDio :=
  ⟨rfl, rfl, fun f => by cases f <;> decide⟩

theorem Laws.Codec.rdDio (v : Level) : Laws.Codec.Statement (.rdDio v) := by
  cases v <;> exact ⟨rfl, rfl, fun f => by cases f <;> decide⟩

theorem Laws.Codec.wait : Laws.Codec.Statement .wait :=
  ⟨rfl, rfl, fun f => by cases f <;> decide⟩

end Sys2Proof
end

