-- ==== Sys2Proof/Tests/Slice0.lean ====
section
/-! SUPPORT. Tests of the model against the spec's own tables and examples, each one step or one word, and for every
statement with hypotheses a witness that meets them. -/

open Sys2Proof Sys2Proof.Machine

/-! Helpers. -/

/-- The next state, if there is one. -/
def Sys2Proof.Tests.next? (o : Host.Outcome State Fault Refusal) : Option State :=
  match o with
  | .next s => some s
  | .fault _ => none
  | .refused _ => none

/-- The assembler's answer, if it accepts. -/
def Sys2Proof.Tests.words? (o : Except AsmError (List ReqWord)) : Option (List ReqWord) :=
  match o with
  | .ok ws => some ws
  | .error _ => none

/-- The trace read back, if it is one. -/
def Sys2Proof.Tests.trace? (o : Except DecodeError (List Event)) : Option (List Event) :=
  match o with
  | .ok tr => some tr
  | .error _ => none

/-- Reset with the thread's turn next and a program placed. -/
def Sys2Proof.Tests.withProgram (ws : List ReqWord) : State :=
  { State.reset with program := ws, sched := [.thread] }

/-- A request in progress at index k, the thread's turn next, its trace and directions those of its first k actions from
the idle bus; a WRITE's byte is 0x40, and v the answer of its read. -/
def Sys2Proof.Tests.inProgress (op : Op) (k : Nat) (v : Level) : State :=
  let asmp : Option Level := if op = .write ∧ 53 < k then some v else none
  let tr := ((actionList Params.spec op 0x40#8 asmp).take k).map (LineAction.event v)
  { State.reset with
    sched := [.thread], answers := [v], seq := .run op k, data := some 0x40#8, asmp := asmp, trace := tr,
    dirs := Dirs.idleBus.replay tr }

open Sys2Proof.Tests

/-! ## Well-formedness: an ill-formed term for each check -/

/-- R63, R64: a line action is no request, and a request no line action. -/
theorem test_format_refused :
    Instr.drvClk.wellFormedIn .req = false ∧ (Instr.rdDio .low).wellFormedIn .req = false ∧
    Instr.start.wellFormedIn .line = false ∧ (Instr.write 0#8).wellFormedIn .line = false ∧
    Instr.start.wellFormedIn .req = true ∧ Instr.wait.wellFormedIn .line = true := by decide

/-- R79: an imm8 is in 0..255; R80: a DISPON brightness in 0..7. -/
theorem test_line_refused :
    (AsmLine.write 256).wellFormed = false ∧ (AsmLine.write 255).wellFormed = true ∧
    (AsmLine.frame [0, 300]).wellFormed = false ∧ (AsmLine.setDigits 0 0 256 0).wellFormed = false ∧
    (AsmLine.dispOn 8).wellFormed = false ∧ (AsmLine.dispOn 7).wellFormed = true := by decide

/-! ## Decoding: words written out bit by bit from R66, R67, R70, R71 -/

/-- op 01, data 0 (R67). -/
theorem test_decode_start : decode? (.req 0b01_00000000#10) = some .start := by decide

/-- op 10, data 0 (R67). -/
theorem test_decode_stop : decode? (.req 0b10_00000000#10) = some .stop := by decide

/-- op 11, data 1010_0001: the operand is the low byte, bit for bit (R68). -/
theorem test_decode_write : decode? (.req 0b11_10100001#10) = some (.write 0xA1#8) := by decide

/-- v 0, kind 00, line 00 (R71). -/
theorem test_decode_drv_clk : decode? (.line 0b0_00_00#5) = some .drvClk := by decide

/-- v 0, kind 00, line 01 (R71). -/
theorem test_decode_drv_dio : decode? (.line 0b0_00_01#5) = some .drvDio := by decide

/-- v 0, kind 01, line 00 (R71). -/
theorem test_decode_rel_clk : decode? (.line 0b0_01_00#5) = some .relClk := by decide

/-- v 0, kind 01, line 01 (R71). -/
theorem test_decode_rel_dio : decode? (.line 0b0_01_01#5) = some .relDio := by decide

/-- kind 10, line 01, with v 0 and v 1 (R71). -/
theorem test_decode_rd_dio :
    decode? (.line 0b0_10_01#5) = some (.rdDio .low) ∧ decode? (.line 0b1_10_01#5) = some (.rdDio .high) := by decide

/-- v 0, kind 11, line 00 (R71). -/
theorem test_decode_wait : decode? (.line 0b0_11_00#5) = some .wait := by decide

/-- R69: op 00, and START and STOP with data. -/
theorem test_decode_reserved_req :
    decode? (.req 0x000#10) = none ∧ decode? (.req 0x0FF#10) = none ∧ decode? (.req 0x101#10) = none ∧
    decode? (.req 0x1FF#10) = none ∧ decode? (.req 0x201#10) = none ∧ decode? (.req 0x2FF#10) = none := by decide

/-- R73: line 1x, RD CLK, WAIT with a line, v 1 on another kind. -/
theorem test_decode_reserved_line :
    decode? (.line 0x02#5) = none ∧ decode? (.line 0x1F#5) = none ∧ decode? (.line 0x08#5) = none ∧
    decode? (.line 0x18#5) = none ∧ decode? (.line 0x0D#5) = none ∧ decode? (.line 0x10#5) = none := by decide

/-- The table's rows, by how many bits they have (log entry 19). -/
theorem test_table_word :
    decodeTableWord 16 0x100 = some .start ∧ decodeTableWord 16 0x300 = some (.write 0#8) ∧
    decodeTableWord 8 0x09 = some (.rdDio .low) ∧ decodeTableWord 8 0x00 = some .drvClk ∧
    decodeTableWord 8 0x20 = none ∧ decodeTableWord 16 0x400 = none := by decide

/-- R73: a trace with a reserved code is no trace of this block. -/
theorem test_decode_trace :
    trace? (decodeTrace [0x04#5, 0x01#5, 0x0C#5]) = some [.rel .clk, .drv .dio, .wait] ∧
    trace? (decodeTrace [0x04#5, 0x18#5]) = none := by decide

/-! ## One step of each instruction -/

/-- R101: START from reset opens the frame and raises nothing. -/
theorem test_start :
    (next? (step (State.reset.withFetchWord 16 0x100))).map (fun t => (t.seq, t.frameOpen, t.pc, t.faults)) =
      some (.run .start 0, true, 1, ⟨false, false, false, false⟩) := by rfl

/-- R85, R101: START inside a frame raises FRAMING and still runs. -/
theorem test_start_in_frame :
    (next? (step { withProgram [0x100#10] with frameOpen := true })).map (fun t => (t.seq, t.faults.framing)) =
      some (.run .start 0, true) := by rfl

/-- R103: STOP from reset raises FRAMING (R107) and runs. -/
theorem test_stop :
    (next? (step (State.reset.withFetchWord 16 0x200))).map (fun t => (t.seq, t.frameOpen, t.faults.framing)) =
      some (.run .stop 0, false, true) := by rfl

/-- R84, R113: WRITE latches its byte and clears the old sample; last_ack stays. -/
theorem test_write :
    (next? (step { withProgram [0x340#10] with frameOpen := true, asmp := some .high, lastAck := some true })).map
      (fun t => (t.seq, t.data, t.asmp, t.lastAck)) =
      some (.run .write 0, some 0x40#8, none, some true) := by rfl

/-- R84: a WRITE outside a frame raises FRAMING and sends the byte anyway. -/
theorem test_write_unframed :
    (next? (step (State.reset.withFetchWord 16 0x3FF))).map (fun t => (t.data, t.faults.framing)) =
      some (some 0xFF#8, true) := by rfl

/-- R149: a reserved word leaves seq Idle, advances pc and marks ILLEGAL_REQUEST, not FRAMING (R156). -/
theorem test_illegal :
    (next? (step (withProgram [0x101#10]))).map (fun t => (t.seq, t.pc, t.frameOpen, t.faults)) =
      some (.idle, 1, false, ⟨true, false, false, false⟩) := by rfl

/-- R89: DRV CLK. -/
theorem test_drv_clk :
    (next? (step (State.reset.withFetchWord 8 0x00))).map (fun t => (t.dirs, t.trace)) =
      some (⟨.driven, .released⟩, [.drv .clk]) := by rfl

/-- R89's example: DRV DIO from the idle bus; DIO falls while CLK is high. -/
theorem test_drv_dio :
    (next? (step (State.reset.withFetchWord 8 0x01))).map (fun t => (t.dirs, t.level .clk, t.level .dio)) =
      some (⟨.released, .driven⟩, .high, .low) := by rfl

/-- R90's example: REL CLK from both driven; CLK rises with DIO low. -/
theorem test_rel_clk :
    (next? (exec .relClk { State.reset with dirs := ⟨.driven, .driven⟩ })).map
      (fun t => (t.dirs, t.level .clk, t.level .dio)) = some (⟨.released, .driven⟩, .high, .low) := by rfl

/-- R90: REL DIO releases DIO and nothing else; the receiver may still hold the wire low. -/
theorem test_rel_dio :
    (next? (exec .relDio { State.reset with dirs := ⟨.driven, .driven⟩, rxDio := .driven })).map
      (fun t => (t.dirs, t.level .dio)) = some (⟨.driven, .released⟩, .low) := by rfl

/-- R91's example: the receiver acknowledges. -/
theorem test_rd_dio :
    (next? (step (State.reset.withFetchWord 8 0x09))).map (fun t => (t.asmp, t.trace, t.rxDio)) =
      some (some .low, [.rd .low], .driven) := by rfl

/-- R91: a sample of 1 is recorded as 1; the receiver leaves DIO released. -/
theorem test_rd_dio_high :
    (next? (step (State.reset.withFetchWord 8 0x19))).map (fun t => (t.asmp, t.trace, t.rxDio)) =
      some (some .high, [.rd .high], .released) := by rfl

/-- R92: WAIT changes nothing but the trace. -/
theorem test_wait :
    (next? (exec .wait State.reset)).map (fun t => (t.trace, t.dirs, t.seq)) =
      some ([.wait], ⟨.released, .released⟩, .idle) := by rfl

/-- R112, R119: an acknowledged WRITE's last action is action 56, DRV CLK, and the result is true. -/
theorem test_write_completes :
    (next? (step (inProgress .write 56 .low))).map (fun t => (t.seq, t.lastAck, t.dirs)) =
      some (.idle, some true, ⟨.driven, .driven⟩) := by rfl

/-- R112, R122: an unacknowledged WRITE's last action is action 55, and the result is false. -/
theorem test_write_completes_nack :
    (next? (step (inProgress .write 55 .high))).map (fun t => (t.seq, t.lastAck, t.dirs)) =
      some (.idle, some false, ⟨.driven, .released⟩) := by rfl

/-- R113's example: slots 6 and 7 of WRITE 0x40 send bit 6 released and bit 7 driven. -/
theorem test_bit_order :
    (actionList Params.spec .write 0x40#8 none)[38]? = some (.rel .dio) ∧
    (actionList Params.spec .write 0x40#8 none)[44]? = some (.drv .dio) ∧
    (actionList Params.spec .write 0x40#8 none)[2]? = some (.drv .dio) := by decide

/-- R94, R95: REL DIO after a bit of 0 makes DIO rise, but not when the receiver already drives it in its window. -/
theorem test_edge_in_window :
    (⟨⟨.driven, .driven⟩, .released⟩ : Wire).edge (.rel .dio) .dio = some .rise ∧
    (⟨⟨.driven, .driven⟩, .driven⟩ : Wire).edge (.rel .dio) .dio = none := by decide

/-- R19, R167: DIR is 0b11 at reset, and bit 0 is CLK. -/
theorem test_dir_register :
    State.reset.dirReg = 0b11#2 ∧ ({ State.reset with dirs := ⟨.driven, .released⟩ } : State).dirReg = 0b10#2 := by decide

/-- R83, R155: the timer's step. -/
theorem test_timer :
    (next? (step { State.reset with sched := [.timer] })).map (fun t => (t.tick, t.pc, t.trace)) =
      some (true, 0, []) := by rfl

/-- R185: the end of a run marks an open frame. -/
theorem test_end_of_run :
    (next? (step { withProgram [] with frameOpen := true })).map (fun t => t.faults.framing) = some true := by rfl

/-! ## The host's procedures and the assembler, from the spec's examples -/

/-- R134's example. -/
theorem test_render :
    let s : State := { State.reset with buffer := some ⟨1, 2, 3, 4⟩, display := ⟨7, 4, false, 4⟩ }
    s.renderFrame.program = [0x100#10, 0x340#10, 0x200#10, 0x100#10, 0x3C0#10, 0x306#10, 0x35B#10, 0x34F#10, 0x366#10,
      0x200#10, 0x100#10, 0x38F#10, 0x200#10] := by rfl

/-- C4's scenario: 0 with the decimal point at 0 shows 0xBF, blank, blank, 0x3F. -/
theorem test_compose : compose ⟨7, 0, false, 4⟩ ⟨0, 0, 0, 0⟩ = ⟨0xBF#8, 0x00#8, 0x00#8, 0x3F#8⟩ := by decide

/-- R133: a digit that is not zero at the decimal point stops blanking; max_digits 0 blanks every position. -/
theorem test_compose_stops :
    compose ⟨7, 0, false, 4⟩ ⟨1, 0, 0, 0⟩ = ⟨0x86#8, 0x3F#8, 0x3F#8, 0x3F#8⟩ ∧
    compose ⟨7, 0, false, 0⟩ ⟨1, 2, 3, 4⟩ = ⟨0x00#8, 0x00#8, 0x00#8, 0x00#8⟩ := by decide

/-- R131, R132: 65535 keeps 5535; 9996 rounds to 0. -/
theorem test_digits :
    extractedDigits 65535 = ⟨5, 5, 3, 5⟩ ∧ roundedDigits ⟨9, 9, 9, 6⟩ = ⟨0, 0, 0, 0⟩ ∧
    roundedDigits ⟨0, 0, 9, 6⟩ = ⟨0, 1, 0, 0⟩ ∧ roundedDigits ⟨1, 2, 6, 5⟩ = ⟨1, 2, 6, 0⟩ := by decide

/-- R79, R80: SETMODE and a line of text with a comment; a byte of 256 is rejected. -/
theorem test_assemble :
    words? (assemble .setMode) = some [0x100#10, 0x340#10, 0x200#10] ∧
    words? (assembleText ["write 0x1F ; x".toList]) = some [0x31F#10] ∧
    words? (assembleText ["WRITE 256".toList]) = none ∧ words? (assembleText ["DISPON 8".toList]) = none := by decide

/-! ## Witnesses: states and operands that meet the hypotheses of each statement, every clause at its boundary values -/

/-- A state in progress meets the invariant: at the start of each list, at the WRITE's first and last bit slot, before
and after its sample, and at both of its ends. -/
theorem witness_inv :
    (∀ op, (inProgress op 0 .low).Inv) ∧ (inProgress .write 4 .low).Inv ∧ (inProgress .write 46 .low).Inv ∧
    (inProgress .write 53 .low).Inv ∧ (inProgress .write 54 .low).Inv ∧ (inProgress .write 56 .low).Inv ∧
    (inProgress .write 55 .high).Inv ∧ (inProgress .stop 5 .low).Inv := by
  have h : ∀ s : State, s.pc ≤ s.program.length → s.seqOk → s.traceOk → s.dirsOk → s.ackOk → s.Inv :=
    fun _ a b c d e => ⟨a, b, c, d, e⟩
  refine ⟨fun op => ?_, ?_, ?_, ?_, ?_, ?_, ?_, ?_⟩
  · cases op
    · exact h _ (Nat.le_refl _) ⟨by decide, by decide⟩ List.suffix_rfl rfl rfl
    · exact h _ (Nat.le_refl _) ⟨by decide, by decide⟩ List.suffix_rfl rfl rfl
    · exact h _ (Nat.le_refl _) ⟨by decide, by decide⟩ List.suffix_rfl rfl rfl
  all_goals exact h _ (Nat.le_refl _) ⟨by decide, by decide⟩ List.suffix_rfl rfl rfl

/-- For CleanLaunchMeetsTheInvariant: without host procedures, and with them and DisplayConfig in range. -/
theorem witness_clean_launch :
    CleanLaunch ⟨true, true, true, true, true, false⟩ State.reset ∧
    CleanLaunch ⟨true, true, true, true, true, true⟩ { State.reset with display := ⟨7, 4, false, 4⟩ } :=
  ⟨⟨⟨rfl, rfl, rfl, rfl, rfl, rfl, rfl, rfl, rfl, rfl⟩, rfl⟩, ⟨rfl, rfl, rfl, rfl, rfl, rfl, rfl, rfl, rfl, rfl⟩, rfl⟩

/-- For StepRunsTheDecodedInstruction: the thread's turn with a request word, and with an action, at hand. -/
theorem witness_step :
    ((withProgram [0x3FF#10]).agent = .thread ∧ (withProgram [0x3FF#10]).seq = .idle ∧
      (withProgram [0x3FF#10]).program[(withProgram [0x3FF#10]).pc]? = some 0x3FF#10 ∧
      decode (.req 0x3FF#10) = .ok (.write 0xFF#8)) ∧
    ((inProgress .write 53 .low).agent = .thread ∧ (inProgress .write 53 .low).seq = .run .write 53 ∧
      ((inProgress .write 53 .low).actions .write)[53]? = some .rd) := ⟨⟨rfl, rfl, rfl, rfl⟩, rfl, rfl, rfl⟩

/-- For AcceptanceOfEveryWord and the statements of the three requests: every word can be at hand with the sequencer
Idle, and the words at the clauses' boundaries fall where R67 and R69 put them. -/
theorem witness_acceptance :
    (∀ w, (withProgram [w]).seq = .idle ∧ (withProgram [w]).program[(withProgram [w]).pc]? = some w) ∧
    Spec.reservedReq 0x000#10 = true ∧ Spec.reservedReq 0x0FF#10 = true ∧ Spec.reservedReq 0x100#10 = false ∧
    Spec.reservedReq 0x101#10 = true ∧ Spec.reservedReq 0x1FF#10 = true ∧ Spec.reservedReq 0x200#10 = false ∧
    Spec.reservedReq 0x201#10 = true ∧ Spec.reservedReq 0x2FF#10 = true ∧ Spec.reservedReq 0x300#10 = false ∧
    Spec.reservedReq 0x3FF#10 = false :=
  ⟨fun _ => ⟨rfl, rfl⟩, by decide⟩

/-- For MasterStepPerformsTheIndexedAction: an action within a list and the last of one, the read, and both ends of a
WRITE. -/
theorem witness_master :
    ((inProgress .stop 0 .low).seq = .run .stop 0 ∧ ((inProgress .stop 0 .low).actions .stop)[0]? = some (.drv .dio) ∧
      0 + 1 ≠ ((inProgress .stop 0 .low).actions .stop).length) ∧
    ((inProgress .stop 5 .low).seq = .run .stop 5 ∧ ((inProgress .stop 5 .low).actions .stop)[5]? = some .wait ∧
      5 + 1 = ((inProgress .stop 5 .low).actions .stop).length) ∧
    (((inProgress .write 53 .low).actions .write)[53]? = some .rd ∧ (inProgress .write 53 .low).dirs.dio = .released) ∧
    (((inProgress .write 56 .low).actions .write)[56]? = some (.drv .clk) ∧
      56 + 1 = ((inProgress .write 56 .low).actions .write).length) ∧
    (((inProgress .write 55 .high).actions .write)[55]? = some (.drv .clk) ∧
      55 + 1 = ((inProgress .write 55 .high).actions .write).length) := by
  refine ⟨⟨rfl, rfl, by decide⟩, ⟨rfl, rfl, by decide⟩, ⟨rfl, rfl⟩, ⟨rfl, by decide⟩, rfl, by decide⟩

/-- For TimerStepSetsOnlyTheTick: the timer's turn. -/
theorem witness_timer : ({ State.reset with sched := [.timer] } : State).agent = .timer := rfl

/-- For TheThreadNeitherReadsNorWritesTick and InterruptsDoNotChangeTheBlock: agents that answer, interrupts among
them. -/
theorem witness_interleaving :
    (∃ t, threadStep State.reset = .next t) ∧
    (∃ t, runAgents [.timer, .thread, .timer, .thread] (withProgram [0x100#10]) = .next t) ∧
    ∃ u, runThread ([Agent.timer, .thread, .timer, .thread].count .thread) (withProgram [0x100#10]) = .next u :=
  ⟨⟨_, rfl⟩, ⟨_, rfl⟩, _, rfl⟩

/-- For EveryAcceptedRequestCompletes: each operation just accepted, the invariant holding. -/
theorem witness_just_accepted : ∀ op, (inProgress op 0 .low).Inv ∧ (inProgress op 0 .low).seq = .run op 0 :=
  fun op => ⟨witness_inv.1 op, rfl⟩

/-- For EndOfRunMarksAnOpenFrame: the end of a run with a frame closed and with one open. -/
theorem witness_end_of_run :
    (State.reset.seq = .idle ∧ State.reset.pc = State.reset.program.length ∧ State.reset.frameOpen = false) ∧
    ∃ s : State, s.seq = .idle ∧ s.pc = s.program.length ∧ s.frameOpen = true :=
  ⟨⟨rfl, rfl, rfl⟩, { State.reset with frameOpen := true }, rfl, rfl, rfl⟩

/-- For StartIsAccepted, StopIsAccepted and WriteIsAccepted: Idle, inside and outside a frame. -/
theorem witness_idle :
    (State.reset.seq = .idle ∧ State.reset.frameOpen = false) ∧ ∃ s : State, s.seq = .idle ∧ s.frameOpen = true :=
  ⟨⟨rfl, rfl⟩, { State.reset with frameOpen := true }, rfl, rfl⟩

/-- For ARequestWhileBusyStops: each operation in progress. -/
theorem witness_busy : ∀ op k, ∃ s : State, s.seq = .run op k :=
  fun op k => ⟨{ State.reset with seq := .run op k }, rfl⟩

/-- For ReadRecordsTheSample and ReadWhileDrivenStops: DIO released, and DIO driven. -/
theorem witness_read :
    State.reset.dirs.dio = .released ∧ ({ State.reset with dirs := ⟨.released, .driven⟩ } : State).dirs.dio = .driven :=
  ⟨rfl, rfl⟩

/-- For EitherAnswerIsAdmitted: the read at hand, with and without an imposed answer. -/
theorem witness_answer :
    ((inProgress .write 53 .low).seq = .run .write 53 ∧ (inProgress .write 53 .low).dirs.dio = .released) ∧
    ∃ s : State, s.seq = .run .write 53 ∧ s.dirs.dio = .released ∧ s.answers = [] :=
  ⟨⟨rfl, rfl⟩, { inProgress .write 53 .low with answers := [] }, rfl, rfl, rfl⟩

/-- For StartRunsItsList, StopRunsItsList and WriteRunsItsList: each request at hand, for both values of each parameter
and both answers. -/
theorem witness_requests :
    (∀ b, ∃ s : State, s.seq = .idle ∧ s.program[s.pc]? = some 0x100#10 ∧ s.params.startReleasesClk = b) ∧
    (∃ s : State, s.seq = .idle ∧ s.program[s.pc]? = some 0x200#10) ∧
    (∀ (d : Byte) (b : Bool) (v : Level), ∃ s : State, s.seq = .idle ∧
      s.program[s.pc]? = some (0x300#10 ||| d.setWidth 10) ∧ s.params.wbTrailingWait = b ∧
      v = (match s.answers with | u :: _ => u | [] => Config.freeAnswer (s.draws + 53))) ∧
    ∀ d : Byte, ∃ (s : State) (v : Level), s.answers = [] ∧ s.seq = .idle ∧
      s.program[s.pc]? = some (0x300#10 ||| d.setWidth 10) ∧
      v = (match s.answers with | u :: _ => u | [] => Config.freeAnswer (s.draws + 53)) :=
  ⟨fun b => ⟨{ withProgram [0x100#10] with params := ⟨b, false⟩ }, rfl, rfl, rfl⟩,
    ⟨withProgram [0x200#10], rfl, rfl⟩,
    fun d b v => ⟨{ withProgram [0x300#10 ||| d.setWidth 10] with params := ⟨true, b⟩, answers := [v] }, rfl, rfl, rfl, rfl⟩,
    fun d => ⟨withProgram [0x300#10 ||| d.setWidth 10], Config.freeAnswer 53, rfl, rfl, rfl, rfl⟩⟩

/-- For TheReceiverSamplesTheDataBit: the first and the last bit slot's rise of CLK. -/
theorem witness_sampling :
    ((inProgress .write 4 .low).Inv ∧ (inProgress .write 4 .low).seq = .run .write (6 * 0 + 4) ∧
      (inProgress .write 4 .low).data = some 0x40#8) ∧
    ((inProgress .write 46 .low).Inv ∧ (inProgress .write 46 .low).seq = .run .write (6 * 7 + 4) ∧
      (inProgress .write 46 .low).data = some 0x40#8) :=
  ⟨⟨witness_inv.2.1, rfl, rfl⟩, witness_inv.2.2.1, rfl, rfl⟩

/-- For TheReceiverKeepsToItsWindow: master actions that answer just outside the window, at both ends of its free part, at
the sample, and at both ends of each range after it. -/
theorem witness_window :
    (∀ op, ∃ t, threadStep (inProgress op 0 .low) = .next t) ∧
    ((∃ t, threadStep (inProgress .write 48 .low) = .next t) ∧ inAckWindow .write 48 none = false) ∧
    (∃ t, threadStep (inProgress .write 49 .low) = .next t) ∧
    (∃ t, threadStep (inProgress .write 52 .low) = .next t) ∧
    ((∃ t, threadStep (inProgress .write 53 .low) = .next t) ∧ inAckWindow .write 53 none = true) ∧
    ((∃ t, threadStep (inProgress .write 54 .low) = .next t) ∧ (inProgress .write 54 .low).asmp = some .low) ∧
    ((∃ t, threadStep (inProgress .write 56 .low) = .next t) ∧ (inProgress .write 56 .low).asmp = some .low) ∧
    ((∃ t, threadStep (inProgress .write 54 .high) = .next t) ∧ (inProgress .write 54 .high).asmp = some .high) ∧
    ((∃ t, threadStep (inProgress .write 55 .high) = .next t) ∧ (inProgress .write 55 .high).asmp = some .high) :=
  ⟨fun op => by cases op <;> exact ⟨_, rfl⟩, ⟨⟨_, rfl⟩, rfl⟩, ⟨_, rfl⟩, ⟨_, rfl⟩, ⟨⟨_, rfl⟩, rfl⟩, ⟨⟨_, rfl⟩, rfl⟩,
    ⟨⟨_, rfl⟩, rfl⟩, ⟨⟨_, rfl⟩, rfl⟩, ⟨_, rfl⟩, rfl⟩

/-- For LevelsFollowTheTraceOutsideTheWindow: an action outside the window, and the read inside it, DIO released. -/
theorem witness_levels :
    ((inProgress .write 4 .low).Inv ∧ (inProgress .write 4 .low).seq = .run .write 4 ∧
      (∃ t, threadStep (inProgress .write 4 .low) = .next t) ∧ inAckWindow .write 4 none = false) ∧
    ((inProgress .write 53 .low).Inv ∧ (inProgress .write 53 .low).seq = .run .write 53 ∧
      ∃ t, threadStep (inProgress .write 53 .low) = .next t ∧ (Dirs.idleBus.replay t.trace).dio = .released) :=
  ⟨⟨witness_inv.2.1, rfl, ⟨_, rfl⟩, rfl⟩, witness_inv.2.2.2.1, rfl, _, rfl, rfl⟩

/-- A WRITE's events met with drives the spec allows, the receiver's choice being d wherever it has one. -/
def Sys2Proof.Tests.metWrite (b : Byte) (v : Level) (trailing : Bool) (d : Dir) : List Met :=
  (Spec.writeTrace b v trailing).mapIdx fun k e => ⟨e, receiverDrive .write k (some v) v d⟩

/-- For AWriteMakesNoCondition and the edges of ActionCountsAndMinimumDurations: every byte, sample and choice. -/
theorem witness_met_write (b : Byte) (v : Level) (trailing : Bool) (d : Dir) :
    (metWrite b v trailing d).map Met.event = Spec.writeTrace b v trailing ∧
    receiverAllowed .write v (metWrite b v trailing d) := by
  refine ⟨?_, fun k m f hm hf => ?_⟩
  · apply List.ext_getElem?
    intro k
    simp only [metWrite, List.getElem?_map, List.getElem?_mapIdx]
    cases (Spec.writeTrace b v trailing)[k]? <;> rfl
  · simp only [metWrite, List.getElem?_mapIdx, Option.map_eq_some_iff] at hm
    obtain ⟨e, _, rfl⟩ := hm
    simp [receiverDrive, hf]

/-- For the last clause of ConditionsOfAStart: a START whose receiver holds DIO throughout. -/
theorem witness_met_start :
    ([⟨.drv .dio, .driven⟩, ⟨.wait, .driven⟩] : List Met).map Met.event = Spec.startTrace false := rfl

/-- For EdgesComeOnlyFromTheirOwnLine: a fall and a rise of each line. -/
theorem witness_edges :
    (⟨Dirs.idleBus, .released⟩ : Wire).edge (.drv .clk) .clk = some .fall ∧
    (⟨Dirs.idleBus, .released⟩ : Wire).edge (.drv .dio) .dio = some .fall ∧
    (⟨⟨.driven, .driven⟩, .released⟩ : Wire).edge (.rel .clk) .clk = some .rise ∧
    (⟨⟨.driven, .driven⟩, .released⟩ : Wire).edge (.rel .dio) .dio = some .rise := by decide

/-- For FaultBitsAreSticky and AFaultedRunIsNeverFinal: a state with each bit set, and a step and a run from it. -/
theorem witness_faulted (c : Cause) : ∃ s : State, s.faults.get c = true ∧ (∃ t, step s = .next t) ∧
    ∃ t, runAgents [.thread, .timer] s = .next t :=
  ⟨{ withProgram [] with faults := ⟨true, true, true, true⟩ }, by cases c <;> rfl, ⟨_, rfl⟩, _, rfl⟩

/-- For WhoRaisesEachFault: a reserved word; START inside a frame; STOP and WRITE outside one; the end of a run. -/
theorem witness_raised :
    (∃ t, step (withProgram [0x000#10]) = .next t ∧ t.faults.get .illegalRequest = true) ∧
    (∃ t, step { withProgram [0x100#10] with frameOpen := true } = .next t ∧ t.faults.get .framing = true) ∧
    (∃ t, step (withProgram [0x200#10]) = .next t ∧ t.faults.get .framing = true) ∧
    (∃ t, step (withProgram [0x3FF#10]) = .next t ∧ t.faults.get .framing = true) ∧
    (∃ t, step { withProgram [] with frameOpen := true } = .next t ∧ t.faults.get .framing = true) :=
  ⟨⟨_, rfl, rfl⟩, ⟨_, rfl, rfl⟩, ⟨_, rfl, rfl⟩, ⟨_, rfl, rfl⟩, _, rfl, rfl⟩

/-- For OnlyWriteCompletionWritesLastAck: the last action of a WRITE, with either answer. -/
theorem witness_last_ack :
    (∃ t, step (inProgress .write 56 .low) = .next t ∧ t.lastAck ≠ (inProgress .write 56 .low).lastAck) ∧
    ∃ t, step (inProgress .write 55 .high) = .next t ∧ t.lastAck ≠ (inProgress .write 55 .high).lastAck :=
  ⟨⟨_, rfl, fun h => nomatch h⟩, _, rfl, fun h => nomatch h⟩

/-- For OnlyLineActionsMoveTheLines and NoStepWritesTheProgram: a step that emits and one that does not. -/
theorem witness_steps :
    (∃ t, step (inProgress .stop 0 .low) = .next t ∧ t.trace ≠ (inProgress .stop 0 .low).trace) ∧
    ∃ t, step (withProgram [0x100#10]) = .next t ∧ t.pc = 1 :=
  ⟨⟨_, rfl, fun h => nomatch h⟩, _, rfl, rfl⟩

/-- For OnlyStartAndStopWriteFrameOpen: each of the two. -/
theorem witness_frame_open :
    (∃ t, step (withProgram [0x100#10]) = .next t ∧ t.frameOpen ≠ (withProgram [0x100#10]).frameOpen) ∧
    ∃ t, step { withProgram [0x200#10] with frameOpen := true } = .next t ∧ t.frameOpen ≠ true :=
  ⟨⟨_, rfl, fun h => nomatch h⟩, _, rfl, fun h => nomatch h⟩

/-- For DecodeAndEncodeAgree and TracesAreReadBackFromTheirCodes: words that decode. -/
theorem witness_decode :
    decode (.req 0x300#10) = .ok (.write 0x00#8) ∧ decode (.line 0x19#5) = .ok (.rdDio .high) ∧
    decodeTrace [0x05#5, 0x09#5] = .ok [.rel .dio, .rd .low] := ⟨rfl, rfl, rfl⟩

/-- For TheAssemblerAcceptsWellFormedLines: a line at the edge of each range, and one just past each. -/
theorem witness_assemble :
    (AsmLine.write 255).wellFormed = true ∧ (AsmLine.dispOn 7).wellFormed = true ∧ (AsmLine.frame []).wellFormed = true ∧
    (AsmLine.setDigits 0 255 0 255).wellFormed = true ∧ (AsmLine.write 256).wellFormed = false ∧
    (AsmLine.dispOn 8).wellFormed = false ∧ (AsmLine.frame [256]).wellFormed = false ∧
    (AsmLine.setDigits 0 0 0 256).wellFormed = false ∧
    assemble (.dispOn 7) = .ok [0x100#10, 0x38F#10, 0x200#10] ∧ assemble (.frame []) = .ok [0x100#10, 0x200#10] := by
  refine ⟨?_, ?_, ?_, ?_, ?_, ?_, ?_, ?_, rfl, rfl⟩ <;> decide

/-- For DirRegisterAndObservation: a state of the invariant with no request in progress. -/
theorem witness_idle_inv : (withProgram [0x100#10]).Inv ∧ (withProgram [0x100#10]).seq = .idle :=
  ⟨⟨by decide, trivial, trivial, rfl, rfl⟩, rfl⟩

/-- For TheHostReadsAckAndTick: last_ack with each value and without one. -/
theorem witness_ack :
    (∀ b, ∃ s : State, s.lastAck = some b) ∧ State.reset.lastAck = none :=
  ⟨fun b => ⟨{ State.reset with lastAck := some b }, rfl⟩, rfl⟩

/-- For EveryWaitAddsASettleDelay: a WAIT between the first and the last action of a trace. -/
theorem witness_timed :
    Timed [.drv .dio, .wait, .drv .clk] (fun j => 50 * j) ∧ waitsApart [.drv .dio, .wait, .drv .clk] ∧
    0 ≤ 2 ∧ 2 < [Event.drv .dio, .wait, .drv .clk].length := by
  refine ⟨⟨fun j hj => ?_, fun j hj _ => ?_⟩, fun j hj => ?_, by decide⟩
  · rcases j with _ | _ | j
    · grind
    · grind
    · exact absurd hj (by simp)
  · rcases j with _ | j
    · simp only [Config.tSettle]
      grind
    · exact absurd hj (by simp)
  · rcases j with _ | _ | _ | j
    · cases hj
    · decide
    · cases hj
    · cases hj

/-- For WaitsStayApart: a state in progress whose trace ends in a WAIT. -/
theorem witness_waits_apart :
    (inProgress .stop 5 .low).Inv ∧ waitsApart (inProgress .stop 5 .low).trace ∧
    ∃ t, step (inProgress .stop 5 .low) = .next t := by
  refine ⟨witness_inv.2.2.2.2.2.2.2, fun j hj => ?_, _, rfl⟩
  rcases j with _ | _ | _ | _ | _ | j
  · cases hj
  · decide
  · cases hj
  · decide
  · cases hj
  · cases hj

/-- For RoundDigitsRoundsTheLastPlace: a last digit of 5 and one of 6. -/
theorem witness_round :
    ({ State.reset with buffer := some ⟨1, 2, 6, 5⟩ } : State).buffer = some ⟨1, 2, 6, 5⟩ ∧ (5 : Digit).val ≤ 5 ∧
    5 < (6 : Digit).val := by
  refine ⟨rfl, ?_, ?_⟩ <;> decide

/-- For ComposeEmitsOneOfThreeKinds: each clause at its edge: beyond max_digits; at the decimal point; shown because zeros
are shown, because the digit is not zero, because it is the last, because blanking has stopped; and blanked. -/
theorem witness_compose :
    (∃ c : DisplayConfig, c.maxDigits ≤ 2) ∧
    (∃ c : DisplayConfig, 1 < c.maxDigits ∧ 1 = c.dp) ∧
    (∃ c : DisplayConfig, 0 < c.maxDigits ∧ 0 ≠ c.dp ∧ c.zb = true) ∧
    (∃ (c : DisplayConfig) (d : Digit), 0 < c.maxDigits ∧ 0 ≠ c.dp ∧ c.zb = false ∧ d ≠ 0) ∧
    (∃ (c : DisplayConfig) (i : Nat), i < c.maxDigits ∧ i ≠ c.dp ∧ c.zb = false ∧ i = 3) ∧
    (∃ (c : DisplayConfig) (stop : Bool), 2 < c.maxDigits ∧ 2 ≠ c.dp ∧ c.zb = false ∧ stop = true) ∧
    ∃ (c : DisplayConfig) (i : Nat) (d : Digit) (stop : Bool), i ≠ c.dp ∧ c.zb = false ∧ d = 0 ∧ i ≠ 3 ∧ stop = false :=
  ⟨⟨⟨0, 4, false, 2⟩, by decide⟩, ⟨⟨0, 1, false, 2⟩, by decide⟩, ⟨⟨0, 4, true, 1⟩, by decide⟩,
    ⟨⟨0, 4, false, 1⟩, 9, by decide⟩, ⟨⟨0, 4, false, 4⟩, 3, by decide⟩, ⟨⟨0, 4, false, 3⟩, true, by decide⟩,
    ⟨0, 4, false, 4⟩, 2, 0, false, by decide⟩

/-- For RenderFrameIssuesThreeFrames: a set buffer, and the configuration at both ends of its ranges. -/
theorem witness_render :
    (∃ s : State, s.buffer = some ⟨0, 0, 0, 0⟩ ∧ s.display.brightness ≤ 7 ∧ 1 ≤ s.display.maxDigits ∧
      s.display.maxDigits ≤ 4 ∧ s.display.maxDigits = 1) ∧
    ∃ s : State, s.buffer = some ⟨9, 9, 9, 9⟩ ∧ s.display.brightness ≤ 7 ∧ s.display.brightness = 7 ∧
      1 ≤ s.display.maxDigits ∧ s.display.maxDigits ≤ 4 ∧ s.display.maxDigits = 4 :=
  ⟨⟨{ State.reset with buffer := some ⟨0, 0, 0, 0⟩, display := ⟨0, 4, false, 1⟩ }, rfl, by decide, by decide, by decide, rfl⟩,
    { State.reset with buffer := some ⟨9, 9, 9, 9⟩, display := ⟨7, 4, false, 4⟩ }, rfl, by decide, rfl, by decide, by decide,
    rfl⟩

/-- For RenderFrameMarksItsFaults: a buffer set and one unset, each with a configuration out of range at both ends. -/
theorem witness_render_out_of_range :
    (∃ s : State, s.buffer = some ⟨1, 2, 3, 4⟩ ∧ Spec.outOfRange s.display = true ∧ s.display.maxDigits = 0) ∧
    (∃ s : State, s.buffer = some ⟨1, 2, 3, 4⟩ ∧ Spec.outOfRange s.display = true ∧ s.display.brightness = 8) ∧
    ∃ s : State, s.buffer = none ∧ Spec.outOfRange s.display = true ∧ s.display.maxDigits = 5 :=
  ⟨⟨{ State.reset with buffer := some ⟨1, 2, 3, 4⟩, display := ⟨7, 4, false, 0⟩ }, rfl, by decide, rfl⟩,
    ⟨{ State.reset with buffer := some ⟨1, 2, 3, 4⟩, display := ⟨8, 4, false, 4⟩ }, rfl, by decide, rfl⟩,
    { State.reset with display := ⟨7, 4, false, 5⟩ }, rfl, by decide, rfl⟩

/-- The states of the program START, STOP, one after each of the thread's steps. -/
def Sys2Proof.Tests.threadRun : Nat → State
  | 0 => withProgram [0x100#10, 0x200#10]
  | n + 1 => (next? (threadStep (threadRun n))).getD State.reset

/-- For EveryFairExecutionEnds: that program under a scheduler that always takes the thread is a weakly fair execution
from a state of the invariant; its 11 steps end the run, after which the thread's step changes nothing. -/
theorem witness_fair :
    Execution (fun _ => .thread) threadRun ∧ WeaklyFair (fun _ => .thread) threadRun ∧ (threadRun 0).Inv ∧
    (threadRun 0).seq = .idle := by
  have still : ∀ j, threadRun (11 + j) = threadRun 11 := by
    intro j
    induction j with
    | zero => rfl
    | succ j ih =>
      rw [show 11 + (j + 1) = (11 + j) + 1 by omega, threadRun, ih]
      rfl
  refine ⟨fun n => ?_, fun n => ⟨fun h => ⟨n, Nat.le_refl n, rfl, h n (Nat.le_refl n)⟩,
    fun h => ⟨n, Nat.le_refl n, rfl, h n (Nat.le_refl n)⟩⟩, ⟨by decide, trivial, trivial, rfl, rfl⟩, rfl⟩
  by_cases hn : n < 11
  · have small : ∀ m : Fin 11, agentStep .thread (threadRun m) = .next (threadRun (m + 1)) := by
      intro m
      match m with
      | 0 | 1 | 2 | 3 | 4 | 5 | 6 | 7 | 8 | 9 | 10 => rfl
    exact small ⟨n, hn⟩
  · have h : n = 11 + (n - 11) := by omega
    rw [h, show 11 + (n - 11) + 1 = 11 + (n - 11 + 1) by omega, still, still]
    rfl
end

/-! What a step can do, said once: the two parts of a thread's move as functions on State with one lemma per field, and the
transition relation that `step` answers. Then the statements about what no step changes, what the registers read as, and
the invariant. -/

namespace Sys2Proof.Machine

/-! ### An accepted request (R84) -/

/-- The request of an operation, d being a WRITE's operand (R67). -/
def requestInstr (d : Byte) : Op → Instr
  | .start => .start
  | .stop => .stop
  | .write => .write d

/-- FRAME_OPEN after a request of op is accepted (R25, R84): only START and STOP write it. -/
def frameAfter (frameOpen : Bool) : Op → Bool
  | .start => true
  | .stop => false
  | .write => frameOpen

/-- The state after a request of op is accepted, d being a WRITE's operand (R84, R85). -/
def State.accepted (s : State) (op : Op) (d : Byte) : State :=
  { s with
    pc := s.pc + 1
    seq := .run op 0
    frameOpen := frameAfter s.frameOpen op
    data := if op = .write then some d else s.data
    asmp := if op = .write then none else s.asmp
    faults := if misframed op s.frameOpen then s.faults.set .framing else s.faults }

/-- A conditional raise writes FAULT only (R148). -/
theorem State.raiseIf_eq (s : State) (b : Bool) (c : Cause) :
    s.raiseIf b c = { s with faults := if b then s.faults.set c else s.faults } := by
  cases b <;> rfl

/-- From Idle a request is accepted (R84). -/
theorem exec_requestInstr_idle (s : State) (op : Op) (d : Byte) (h : s.seq = .idle) :
    exec (requestInstr d op) s = .next (s.accepted op d) := by
  cases op with
  | start =>
    exact (acceptRequest_idle .start (fun t => t.setFrameOpen true) s h).trans
      (by rw [State.framingCheck, State.raiseIf_eq]; rfl)
  | stop =>
    exact (acceptRequest_idle .stop (fun t => t.setFrameOpen false) s h).trans
      (by rw [State.framingCheck, State.raiseIf_eq]; rfl)
  | write =>
    exact (acceptRequest_idle .write (fun t => t.latch d) s h).trans
      (by rw [State.framingCheck, State.raiseIf_eq]; rfl)

/-- While a request is in progress none is accepted (R34). -/
theorem exec_requestInstr_busy (s : State) (op : Op) (d : Byte) (o : Op) (k : Nat) (h : s.seq = .run o k) :
    exec (requestInstr d op) s = .fault .hostBusy := by
  cases op <;> simp [requestInstr, exec, execStart, execStop, execWrite, acceptRequest, h]

/-- Every instruction of the REQ format is the request of an operation (R63). -/
theorem exists_requestInstr (i : Instr) (h : i.format = .req) : ∃ op d, i = requestInstr d op := by
  cases i with
  | start => exact ⟨.start, 0#8, rfl⟩
  | stop => exact ⟨.stop, 0#8, rfl⟩
  | write d => exact ⟨.write, d, rfl⟩
  | drvClk | drvDio | relClk | relDio | rdDio | wait => cases h

/-! ### A performed action (R86) -/

/-- The state once action a, the k-th of op, has met the receiver and been performed, SEQ not yet advanced (R86). -/
def State.perform (s : State) (op : Op) (k : Nat) (a : LineAction) : State :=
  { s.meetReceiver op k a with
    dirs := s.dirs.after (a.event s.answer)
    asmp := if a = .rd then some s.answer else s.asmp
    trace := s.trace ++ [a.event s.answer] }

section perform
variable (s : State) (op : Op) (k : Nat) (a : LineAction)

@[simp] theorem State.perform_dirs : (s.perform op k a).dirs = s.dirs.after (a.event s.answer) := rfl
@[simp] theorem State.perform_data : (s.perform op k a).data = s.data := rfl
@[simp] theorem State.perform_asmp : (s.perform op k a).asmp = if a = .rd then some s.answer else s.asmp := rfl
@[simp] theorem State.perform_lastAck : (s.perform op k a).lastAck = s.lastAck := rfl
@[simp] theorem State.perform_frameOpen : (s.perform op k a).frameOpen = s.frameOpen := rfl
@[simp] theorem State.perform_faults : (s.perform op k a).faults = s.faults := rfl
@[simp] theorem State.perform_trace : (s.perform op k a).trace = s.trace ++ [a.event s.answer] := rfl
@[simp] theorem State.perform_pc : (s.perform op k a).pc = s.pc := rfl
@[simp] theorem State.perform_program : (s.perform op k a).program = s.program := rfl
@[simp] theorem State.perform_rxDio :
    (s.perform op k a).rxDio = receiverDrive op k s.asmp s.answer (Config.freeDrive s.draws) := rfl
@[simp] theorem State.perform_buffer : (s.perform op k a).buffer = s.buffer := rfl
@[simp] theorem State.perform_display : (s.perform op k a).display = s.display := rfl
@[simp] theorem State.perform_params : (s.perform op k a).params = s.params := rfl

end perform

/-- What the master step answers, if it does, as one state (R86). -/
theorem masterStep_next_perform (op : Op) (k : Nat) (s t : State) (h : masterStep op k s = .next t) :
    ∃ a, (s.actions op)[k]? = some a ∧ (a = .rd → s.dirs.dio = .released) ∧
      t = (s.perform op k a).advanceSeq op k :=
  masterStep_next op k s t h

section advanceSeq
variable (s : State) (op : Op) (k : Nat)

@[simp] theorem State.advanceSeq_seq :
    (s.advanceSeq op k).seq = if k + 1 = (s.actions op).length then .idle else .run op (k + 1) := by
  rw [State.advanceSeq_eq]
@[simp] theorem State.advanceSeq_lastAck : (s.advanceSeq op k).lastAck =
    if k + 1 = (s.actions op).length ∧ op = .write then some (acknowledged s.asmp) else s.lastAck := by
  rw [State.advanceSeq_eq]
@[simp] theorem State.advanceSeq_dirs : (s.advanceSeq op k).dirs = s.dirs := by rw [State.advanceSeq_eq]
@[simp] theorem State.advanceSeq_data : (s.advanceSeq op k).data = s.data := by rw [State.advanceSeq_eq]
@[simp] theorem State.advanceSeq_asmp : (s.advanceSeq op k).asmp = s.asmp := by rw [State.advanceSeq_eq]
@[simp] theorem State.advanceSeq_frameOpen : (s.advanceSeq op k).frameOpen = s.frameOpen := by rw [State.advanceSeq_eq]
@[simp] theorem State.advanceSeq_faults : (s.advanceSeq op k).faults = s.faults := by rw [State.advanceSeq_eq]
@[simp] theorem State.advanceSeq_trace : (s.advanceSeq op k).trace = s.trace := by rw [State.advanceSeq_eq]
@[simp] theorem State.advanceSeq_pc : (s.advanceSeq op k).pc = s.pc := by rw [State.advanceSeq_eq]
@[simp] theorem State.advanceSeq_program : (s.advanceSeq op k).program = s.program := by rw [State.advanceSeq_eq]
@[simp] theorem State.advanceSeq_rxDio : (s.advanceSeq op k).rxDio = s.rxDio := by rw [State.advanceSeq_eq]
@[simp] theorem State.advanceSeq_buffer : (s.advanceSeq op k).buffer = s.buffer := by rw [State.advanceSeq_eq]
@[simp] theorem State.advanceSeq_display : (s.advanceSeq op k).display = s.display := by rw [State.advanceSeq_eq]
@[simp] theorem State.advanceSeq_params : (s.advanceSeq op k).params = s.params := by rw [State.advanceSeq_eq]

end advanceSeq

/-! ### The transition relation (R83) -/

/-- What one step from s can answer (R83): the interrupt's step, the master's action, the acceptance or the refusal of the
word at pc, or the check at the end of the run. -/
inductive Transition (s : State) : State → Prop
  | timer (ha : s.agent = .timer) : Transition s s.takeTurn.timerInterrupt
  | master (op : Op) (k : Nat) (a : LineAction) (ha : s.agent = .thread) (hq : s.seq = .run op k)
      (hk : (s.actions op)[k]? = some a) (hrd : a = .rd → s.dirs.dio = .released) :
      Transition s ((s.takeTurn.perform op k a).advanceSeq op k)
  | accept (op : Op) (d : Byte) (w : ReqWord) (ha : s.agent = .thread) (hq : s.seq = .idle)
      (hw : s.program[s.pc]? = some w) (hd : decode (.req w) = .ok (requestInstr d op)) :
      Transition s (s.takeTurn.accepted op d)
  | refuse (w : ReqWord) (e : DecodeError) (ha : s.agent = .thread) (hq : s.seq = .idle)
      (hw : s.program[s.pc]? = some w) (hd : decode (.req w) = .error e) : Transition s s.takeTurn.refuseWord
  | endRun (ha : s.agent = .thread) (hq : s.seq = .idle) (hw : s.program[s.pc]? = none) : Transition s s.takeTurn.endRun

/-- A step answers only what the relation allows. -/
theorem transition_of_step (s t : State) (h : step s = .next t) : Transition s t := by
  rcases step_cases s with ⟨ha, hs⟩ | ⟨ha, hs⟩
  · rw [hs] at h
    cases h
    exact .timer ha
  rw [hs] at h
  rcases threadStep_cases s.takeTurn with ⟨op, k, hq, ht⟩ | ⟨w, hq, hw, ht⟩ | ⟨hq, hw, ht⟩
  · rw [ht] at h
    obtain ⟨a, hk, hrd, rfl⟩ := masterStep_next_perform op k _ t h
    exact .master op k a ha hq hk hrd
  · rw [ht] at h
    rcases accept_cases w s.takeTurn with ⟨i, hd, hi⟩ | ⟨e, hd, hi⟩
    · obtain ⟨op, d, rfl⟩ := exists_requestInstr i (decodeReq_format w i hd)
      rw [hi, exec_requestInstr_idle _ op d hq] at h
      cases h
      exact .accept op d w ha hq hw hd
    · rw [hi] at h
      cases h
      exact .refuse w e ha hq hw hd
  · rw [ht] at h
    cases h
    exact .endRun ha hq hw

/-- A step answers if the action at hand lies in its list and, being a read, finds DIO released (R21, R87, R91). -/
theorem exists_step (s : State)
    (h : ∀ op k, s.seq = .run op k → ∃ a, (s.actions op)[k]? = some a ∧ (a = .rd → s.dirs.dio = .released)) :
    ∃ t, step s = .next t := by
  rcases step_cases s with ⟨-, hs⟩ | ⟨-, hs⟩
  · exact ⟨_, hs⟩
  rw [hs]
  rcases threadStep_cases s.takeTurn with ⟨op, k, hq, ht⟩ | ⟨w, hq, -, ht⟩ | ⟨-, -, ht⟩
  · obtain ⟨a, hk, hrd⟩ := h op k hq
    exact ⟨_, ht.trans (masterStep_eq op k _ a hk hrd)⟩
  · rw [ht]
    rcases accept_cases w s.takeTurn with ⟨i, hd, hi⟩ | ⟨e, -, hi⟩
    · obtain ⟨op, d, rfl⟩ := exists_requestInstr i (decodeReq_format w i hd)
      exact ⟨_, hi.trans (exec_requestInstr_idle _ op d hq)⟩
    · exact ⟨_, hi⟩
  · exact ⟨_, ht⟩

/-- Where a word is fetched pc is inside the program (R22). -/
theorem pc_lt_of_word {s : State} {w : ReqWord} (hw : s.program[s.pc]? = some w) : s.pc < s.program.length :=
  (List.getElem?_eq_some_iff.mp hw).1

/-! ### What no step changes, and who changes what -/

/-- Settles O33: the only write of FAULT is `raise`, which sets a bit. -/
theorem faultBitsAreSticky : Obligations.FaultBitsAreSticky := by
  unfold Obligations.FaultBitsAreSticky
  intro s t h
  show s.faults.le t.faults
  cases transition_of_step s t h with
  | timer => exact FaultBits.le_refl _
  | master op k a => simpa using FaultBits.le_refl s.faults
  | accept op d w =>
    simp only [State.accepted]
    split
    · exact FaultBits.le_set _ _
    · exact FaultBits.le_refl _
  | refuse => exact FaultBits.le_set _ _
  | endRun => exact State.raiseIf_le s.takeTurn _ _

/-- Settles O36: of all transitions only the master's writes LAST_ACK, at the end of a WRITE's list. -/
theorem onlyWriteCompletionWritesLastAck : Obligations.OnlyWriteCompletionWritesLastAck := by
  unfold Obligations.OnlyWriteCompletionWritesLastAck
  intro s t h hne
  cases transition_of_step s t h with
  | timer => exact absurd rfl hne
  | master op k a ha hq =>
    rw [State.advanceSeq_lastAck] at hne
    split at hne
    next hend =>
      obtain ⟨hlen, rfl⟩ := hend
      refine ⟨ha, ⟨k, hq⟩, ?_, ?_⟩
      · rw [State.advanceSeq_seq, if_pos hlen]
      · rw [State.advanceSeq_lastAck, if_pos ⟨hlen, rfl⟩, State.advanceSeq_asmp]
        rfl
    next => exact absurd rfl hne
  | accept => exact absurd rfl hne
  | refuse => exact absurd rfl hne
  | endRun => exact absurd (by rw [State.endRun_eq]; rfl) hne

/-- Settles O37: of all transitions only the master's writes DIR or the trace. -/
theorem onlyLineActionsMoveTheLines : Obligations.OnlyLineActionsMoveTheLines := by
  unfold Obligations.OnlyLineActionsMoveTheLines
  intro s t h
  cases transition_of_step s t h with
  | timer => exact .inl ⟨rfl, rfl⟩
  | master op k a ha hq => exact .inr ⟨by rw [hq]; nofun, a.event s.answer,
      State.advanceSeq_trace .., State.advanceSeq_dirs ..⟩
  | accept => exact .inl ⟨rfl, rfl⟩
  | refuse => exact .inl ⟨rfl, rfl⟩
  | endRun => rw [State.endRun_eq]; exact .inl ⟨rfl, rfl⟩

/-- Settles O38: the transitions write none of these but pc, which the acceptance or the refusal of a word advances. -/
theorem noStepWritesTheProgram : Obligations.NoStepWritesTheProgram := by
  unfold Obligations.NoStepWritesTheProgram
  intro s t h
  cases transition_of_step s t h with
  | timer => exact ⟨rfl, rfl, rfl, rfl, .inl rfl⟩
  | master op k a => exact ⟨by simp, by simp, by simp, by simp, .inl (by simp)⟩
  | accept op d w _ hq hw => exact ⟨rfl, rfl, rfl, rfl, .inr ⟨rfl, hq, pc_lt_of_word hw⟩⟩
  | refuse w e _ hq hw => exact ⟨rfl, rfl, rfl, rfl, .inr ⟨rfl, hq, pc_lt_of_word hw⟩⟩
  | endRun =>
    rw [State.endRun_eq]
    exact ⟨rfl, rfl, rfl, rfl, .inl rfl⟩

/-! ### Decoding, backwards (R67, R70) -/

/-- A request word is its two fields (R66). -/
theorem reqOp_append_reqData (w : ReqWord) : reqOp w ++ reqData w = w :=
  (BitVec.extractLsb'_append_extractLsb'_eq_extractLsb' (start₂ := 8) (start₁ := 0) (len₁ := 8) (len₂ := 2) (x := w)
    rfl).trans BitVec.extractLsb'_eq_self

/-- A request word that decodes is the encoding of what it decodes to (R67). -/
theorem encode_of_decodeReq (w : ReqWord) (i : Instr) (h : decode (.req w) = .ok i) : encode i = .req w := by
  have hw := reqOp_append_reqData w
  simp only [decode, decodeReq] at h
  split at h
  next hop =>
    cases h
    rw [hop, BitVec.append_def, BitVec.setWidth'_eq] at hw
    exact congrArg CodeWord.req hw
  split at h
  next hop =>
    split at h
    next hdata => cases h; rw [← hw, hop, hdata]; rfl
    next => cases h
  split at h
  next hop =>
    split at h
    next hdata => cases h; rw [← hw, hop, hdata]; rfl
    next => cases h
  cases h

/-- An event is read back from its code (R70). -/
theorem decodeEvent_code (e : Event) : decodeEvent e.code = .ok e := by
  cases e with
  | drv l | rel l => cases l <;> rfl
  | rd v => cases v <;> rfl
  | wait => rfl

/-- What is read back from a code has that code: checked for each of the 32 codes (R70, R73). -/
theorem code_of_decodeEvent (w : LineWord) (e : Event) (h : decodeEvent w = .ok e) : e.code = w := by
  have all : ∀ w : LineWord, (decodeEvent w).toOption.all (fun e => e.code == w) = true := by decide
  simpa [h, Except.toOption] using all w

/-- Settles O44: by induction on the trace, and on the list of codes, an event at a time. -/
theorem tracesAreReadBackFromTheirCodes : Obligations.TracesAreReadBackFromTheirCodes := by
  unfold Obligations.TracesAreReadBackFromTheirCodes
  refine ⟨fun tr => ?_, fun ws => ?_⟩
  · induction tr with
    | nil => rfl
    | cons e es ih => simp only [List.map_cons, decodeTrace, decodeEvent_code, ih]
  · induction ws with
    | nil => intro tr h; cases h; rfl
    | cons w ws ih =>
      intro tr h
      rw [decodeTrace] at h
      split at h
      next => cases h
      next e he =>
        split at h
        next => cases h
        next es hes =>
          cases h
          rw [List.map_cons, code_of_decodeEvent w e he, ih es hes]

/-- Settles O39: of all transitions only an acceptance writes FRAME_OPEN; the word accepted is the encoding of its
request. -/
theorem onlyStartAndStopWriteFrameOpen : Obligations.OnlyStartAndStopWriteFrameOpen := by
  unfold Obligations.OnlyStartAndStopWriteFrameOpen
  intro s t h hne
  cases transition_of_step s t h with
  | timer => exact absurd rfl hne
  | master op k a => simp at hne
  | accept op d w _ hq hw hd =>
    have hcode := encode_of_decodeReq w _ hd
    cases op with
    | start => cases hcode; exact .inl ⟨rfl, rfl, hq, hw⟩
    | stop => cases hcode; exact .inr ⟨rfl, rfl, hq, hw⟩
    | write => exact absurd rfl hne
  | refuse => exact absurd rfl hne
  | endRun => exact absurd (by rw [State.endRun_eq]; rfl) hne

/-! ### The receiver's drive -/

/-- The master reads at WRITE index 53, and nowhere else (R91, R112). -/
theorem action_eq_rd_iff (s : State) (op : Op) (k : Nat) (a : LineAction) (hk : (s.actions op)[k]? = some a) :
    a = .rd ↔ op = .write ∧ k = 53 := by
  constructor
  · rintro rfl
    exact actionList_rd s.params op s.dataByte s.asmp k hk
  · rintro ⟨rfl, rfl⟩
    have hrd : (s.actions .write)[53]? = some .rd := rfl
    exact Option.some.inj (hk.symm.trans hrd)

/-- The level of DIO that a drive shows while the master releases it (R27, R91). -/
theorem level_dio_of_driveOf (s : State) (v : Level) (hd : s.dirs.dio = .released) (hr : s.rxDio = driveOf v) :
    s.level .dio = v := by
  cases v <;> simp [State.level, State.wire, Wire.level, hd, hr, driveOf]

/-- After a sample of 0 the receiver holds DIO up to the final DRV CLK, action 56 (R118). -/
theorem receiverFixed_acked (k : Nat) (v : Level) (h : 54 ≤ k) (h' : k ≤ 56) :
    receiverFixed .write k (some .low) v = some .driven := by
  have : k = 54 ∨ k = 55 ∨ k = 56 := by omega
  rcases this with rfl | rfl | rfl <;> rfl

/-- Settles O27: the drive after a master action is `receiverDrive` at it, which is fixed or free as the window says. -/
theorem theReceiverKeepsToItsWindow : Obligations.TheReceiverKeepsToItsWindow := by
  unfold Obligations.TheReceiverKeepsToItsWindow
  intro s t op k hq h
  have hm : masterStep op k s = .next t := by simpa [threadStep, hq] using h
  obtain ⟨a, hk, hdio, rfl⟩ := masterStep_next_perform op k s t hm
  have hrx : ((s.perform op k a).advanceSeq op k).rxDio = receiverDrive op k s.asmp s.answer (Config.freeDrive s.draws) :=
    State.advanceSeq_rxDio _ op k
  refine ⟨fun hout => ?_, fun hop h1 h2 => ?_, fun hop hk53 => ?_, fun hop h1 h2 hs => ?_, fun hop hk54 hs => ?_,
    fun hop hk55 hs => ?_⟩
  · exact hrx.trans (receiverDrive_of_fixed _ (receiverFixed_outside op k _ _ hout))
  · exact hrx.trans (receiverDrive_of_choice _ ((receiverFixed_eq_none_iff ..).mpr ⟨hop, by omega, .inl (by omega)⟩))
  · have ha : a = .rd := (action_eq_rd_iff s op k a hk).mpr ⟨hop, hk53⟩
    subst hop hk53 ha
    have hlevel := level_dio_of_driveOf ((s.perform .write 53 .rd).advanceSeq .write 53) s.answer
      (by simpa [LineAction.event, Dirs.after] using hdio rfl) hrx
    rw [hlevel, State.advanceSeq_asmp, State.perform_asmp, if_pos rfl]
  · subst hop
    exact hrx.trans (receiverDrive_of_fixed _ (by rw [hs]; exact receiverFixed_acked k _ h1 h2))
  · exact hrx.trans (receiverDrive_of_choice _ ((receiverFixed_eq_none_iff ..).mpr
      ⟨hop, by omega, .inr ⟨hk54, by rw [hs]; rfl⟩⟩))
  · subst hop hk55
    exact hrx.trans (receiverDrive_of_fixed _ (by rw [hs]; rfl))

/-! ### The registers as they are read -/

/-- Settles O16: each of the three is the request of an operation. -/
theorem aRequestWhileBusyStops : Obligations.ARequestWhileBusyStops := by
  unfold Obligations.ARequestWhileBusyStops
  intro s op k d hq
  exact ⟨exec_requestInstr_busy s .start d op k hq, exec_requestInstr_busy s .stop d op k hq,
    exec_requestInstr_busy s .write d op k hq⟩

/-- Settles O31: `Wire.level` on the state's drivers. -/
theorem levelsAreTheWiredAnd : Obligations.LevelsAreTheWiredAnd := by
  unfold Obligations.LevelsAreTheWiredAnd
  exact fun s => ⟨rfl, rfl⟩

/-- Eight bits side by side, bit 7 on the left. -/
theorem getLsbD_eightBits : ∀ b7 b6 b5 b4 b3 b2 b1 b0 : Bool,
    let w : BitVec 8 := BitVec.ofBool b7 ++ BitVec.ofBool b6 ++ BitVec.ofBool b5 ++ BitVec.ofBool b4 ++ BitVec.ofBool b3
      ++ BitVec.ofBool b2 ++ BitVec.ofBool b1 ++ BitVec.ofBool b0
    w.getLsbD 0 = b0 ∧ w.getLsbD 1 = b1 ∧ w.getLsbD 2 = b2 ∧ w.getLsbD 3 = b3 ∧ w.getLsbD 4 = b4 ∧ w.getLsbD 5 = b5 ∧
      w.getLsbD 6 = b6 ∧ w.getLsbD 7 = b7 := by
  decide

/-- Settles O46: STAT is eight bits side by side. -/
theorem statPacksTheState : Obligations.StatPacksTheState := by
  unfold Obligations.StatPacksTheState
  refine ⟨fun s => ?_, rfl⟩
  obtain ⟨busy, frame, valid, ack, illegal, framing, config, unset⟩ := getLsbD_eightBits s.faults.unsetRead
    s.faults.configRange s.faults.framing s.faults.illegalRequest (s.lastAck == some true) s.lastAck.isSome s.frameOpen
    s.busy
  refine ⟨?_, frame, ?_, ?_, illegal, framing, config, unset⟩
  · rw [State.stat, busy]; simp [State.busy]
  · rw [State.stat, valid]; simp [Option.isSome_iff_ne_none]
  · rw [State.stat, ack]; simp

/-- Settles O47: by cases on LAST_ACK. -/
theorem theHostReadsAckAndTick : Obligations.TheHostReadsAckAndTick := by
  unfold Obligations.TheHostReadsAckAndTick
  refine ⟨fun s b h => ?_, fun s h => ?_, fun s => rfl⟩
  · simp [State.demandAck, h]
  · simp [State.demandAck, h, State.raise, FaultBits.set]

/-! ### The results of the WRITEs in a trace -/

theorem writeResults_append (xs ys : List Event) : writeResults (xs ++ ys) = writeResults xs ++ writeResults ys :=
  List.filterMap_append

theorem acknowledged_some (v : Level) : acknowledged (some v) = (v == .low) := by
  cases v <;> rfl

/-- An action's event adds a result only if it is a read (R35). -/
theorem writeResults_event (a : LineAction) (v : Level) :
    writeResults [a.event v] = if a = .rd then [acknowledged (some v)] else [] := by
  cases a <;> rfl

/-- A bit slot adds no result. -/
theorem writeResults_slotTrace (d : Byte) (i : Nat) : writeResults (Spec.slotTrace d i) = [] := by
  unfold Spec.slotTrace
  split <;> rfl

/-- A WRITE adds one result: whether its sample was 0 (R35, R185). -/
theorem writeResults_writeTrace (d : Byte) (v : Level) (b : Bool) :
    writeResults (Spec.writeTrace d v b) = [v == .low] := by
  have slots : writeResults ((List.range 8).flatMap (Spec.slotTrace d)) = [] := by
    simp [List.range_succ, writeResults_append, writeResults_slotTrace]
  unfold Spec.writeTrace
  simp only [writeResults_append, slots]
  cases v <;> cases b <;> rfl

/-- Settles O59: DIR packs two bits, and results are read off a trace piece by piece. -/
theorem dirRegisterAndObservation : Obligations.DirRegisterAndObservation := by
  unfold Obligations.DirRegisterAndObservation
  refine ⟨fun s => ?_, rfl, fun s => ⟨rfl, rfl, rfl⟩, rfl, fun s b => ?_, fun s => ?_, fun s d v b => ?_,
    fun s ⟨_, _, _, _, hack⟩ hq => ?_⟩
  · cases hc : s.dirs.clk <;> cases hd : s.dirs.dio <;> simp [State.dirReg, hc, hd, dirBit]
  · have hstart : writeResults (Spec.startTrace b) = [] := by cases b <;> rfl
    exact (writeResults_append _ _).trans (by rw [hstart, List.append_nil]; rfl)
  · exact (writeResults_append _ _).trans (List.append_nil _)
  · exact (writeResults_append _ _).trans (by rw [writeResults_writeTrace]; rfl)
  · rw [State.ackOk, hq] at hack
    exact hack

/-! ### The invariant -/

/-! What each part of the invariant says of a state, SEQ being known. -/

theorem State.seqOk_idle {s : State} (hq : s.seq = .idle) : s.seqOk := by
  rw [State.seqOk, hq]; trivial

theorem State.seqOk_run {s : State} {op : Op} {k : Nat} (hq : s.seq = .run op k) :
    s.seqOk ↔ k < (s.actions op).length ∧ (op = .write → s.data.isSome = true ∧ (s.asmp = none ↔ k ≤ 53)) := by
  rw [State.seqOk, hq]

theorem State.traceOk_idle {s : State} (hq : s.seq = .idle) : s.traceOk := by
  rw [State.traceOk, hq]; trivial

theorem State.traceOk_run {s : State} {op : Op} {k : Nat} (hq : s.seq = .run op k) :
    s.traceOk ↔ ((s.actions op).take k).map (LineAction.event (s.asmp.getD .high)) <:+ s.trace := by
  rw [State.traceOk, hq]

theorem State.ackOk_idle {s : State} (hq : s.seq = .idle) :
    s.ackOk ↔ s.lastAck = (writeResults s.trace).getLast? := by
  rw [State.ackOk, hq]

/-- With a request in progress the last result is not LAST_ACK's yet if it is that of a WRITE past its read (R24). -/
theorem State.ackOk_run {s : State} {op : Op} {k : Nat} (hq : s.seq = .run op k) :
    s.ackOk ↔ s.lastAck =
      (if op = .write ∧ 53 < k then (writeResults s.trace).dropLast else writeResults s.trace).getLast? := by
  rw [State.ackOk, hq]
  cases op with
  | start | stop => simp
  | write => by_cases hk : k ≤ 53 <;> simp [hk, Nat.not_lt.mpr, Nat.lt_of_not_le]

/-- An action that is no read has one event, whatever was drawn. -/
theorem event_congr {a : LineAction} (h : a ≠ .rd) (u v : Level) : a.event u = a.event v := by
  cases a with
  | rd => exact absurd rfl h
  | drv | rel | wait => rfl

theorem replay_append (d : Dirs) (xs ys : List Event) : d.replay (xs ++ ys) = (d.replay xs).replay ys :=
  List.foldl_append

/-- Before index 53 no list reads (R91, R112). -/
theorem ne_rd_of_mem_take (s : State) (op : Op) (k : Nat) (hk : k ≤ 53) (a : LineAction)
    (ha : a ∈ (s.actions op).take k) : a ≠ .rd := by
  obtain ⟨j, hj, hja⟩ := List.mem_take_iff_getElem.mp ha
  intro hrd
  have hget : (s.actions op)[j]? = some a := List.getElem?_eq_some_iff.mpr ⟨by omega, hja⟩
  have := (action_eq_rd_iff s op j a hget).mp hrd
  omega

/-- A bit slot's actions are recorded as the slot's events of the spec's table (R112). -/
theorem bitSlot_events (d : Byte) (i : Nat) (v : Level) : (bitSlot d i).map (LineAction.event v) = Spec.slotTrace d i := by
  unfold bitSlot bitAction dataBit Spec.slotTrace
  cases d.getLsbD i <;> rfl

/-- A WRITE's actions after a sample v are recorded as the events of the spec's table (R112, R117, R123). -/
theorem writeActions_events (p : Params) (d : Byte) (v : Level) :
    (writeActions p d (some v)).map (LineAction.event v) = Spec.writeTrace d v p.wbTrailingWait := by
  have ack : ∀ b, (ackSlot (acknowledged (some v)) b).map (LineAction.event v) =
      [.drv .clk, .rel .dio, .wait, .rel .clk, .wait, .rd v] ++ (if v = .low then [.drv .dio] else [])
        ++ [.wait, .drv .clk] ++ (if b then [.wait] else []) := by
    intro b
    cases v <;> cases b <;> rfl
  simp [writeActions, Spec.writeTrace, bitSlot_events, ack, List.range_succ]

/-- The master has released DIO when it reads: index 49 of a WRITE is REL DIO, and no action up to 53 drives DIO again
(R57, R91). -/
theorem State.Inv.dio_released_at_read {s : State} (hs : s.Inv) (hq : s.seq = .run .write 53) :
    s.dirs.dio = .released := by
  obtain ⟨-, -, htrace, hdirs, -⟩ := hs
  have hlist : (s.actions .write).take 53 = (s.actions .write).take 48 ++
      [.drv .clk, .rel .dio, .wait, .rel .clk, .wait] := rfl
  rw [State.traceOk_run hq, hlist, List.map_append] at htrace
  obtain ⟨pre, hpre⟩ := htrace
  rw [hdirs, ← hpre, ← List.append_assoc, replay_append]
  rfl

section perform
variable {s : State} {op : Op} {k : Nat} {a : LineAction}

/-- Performing an action leaves the list as it was up to and including that action (R86): only a WRITE's read changes the
list, after index 53. -/
theorem actions_perform_take (hk : (s.actions op)[k]? = some a) :
    ((s.perform op k a).actions op).take (k + 1) = (s.actions op).take k ++ [a] := by
  have hold : (s.actions op).take (k + 1) = (s.actions op).take k ++ [a] := by
    rw [List.take_add_one, hk]; rfl
  rw [← hold]
  by_cases ha : a = .rd
  · obtain ⟨rfl, rfl⟩ := (action_eq_rd_iff s op k a hk).mp ha
    exact writeActions_take_of_le _ _ _ _ 54 (by decide)
  · simp only [State.actions, State.dataByte, State.perform_params, State.perform_data, State.perform_asmp, if_neg ha]

/-- The action performed lies in the list as it is afterwards. -/
theorem lt_length_actions_perform (hk : (s.actions op)[k]? = some a) : k < ((s.perform op k a).actions op).length := by
  have hlt := (List.getElem?_eq_some_iff.mp hk).1
  have := congrArg List.length (actions_perform_take hk)
  simp only [List.length_take, List.length_append, List.length_singleton] at this
  omega

/-- The trace then ends with the first k + 1 actions of the list as it is afterwards (R57). -/
theorem trace_perform_suffix (htrace : s.traceOk) (hq : s.seq = .run op k) (hk : (s.actions op)[k]? = some a) :
    (((s.perform op k a).actions op).take (k + 1)).map (LineAction.event ((s.perform op k a).asmp.getD .high)) <:+
      (s.perform op k a).trace := by
  rw [State.traceOk_run hq] at htrace
  obtain ⟨pre, hpre⟩ := htrace
  refine ⟨pre, ?_⟩
  rw [actions_perform_take hk, List.map_append, State.perform_trace, ← hpre, List.append_assoc]
  congr 2
  · refine List.map_congr_left fun b hb => ?_
    by_cases ha : a = .rd
    · obtain ⟨-, rfl⟩ := (action_eq_rd_iff s op k a hk).mp ha
      exact event_congr (ne_rd_of_mem_take s op 53 (Nat.le_refl _) b hb) _ _
    · rw [State.perform_asmp, if_neg ha]
  · by_cases ha : a = .rd
    · subst ha; rfl
    · exact congrArg (fun e => [e]) (event_congr ha _ _)

theorem writeResults_perform : writeResults (s.perform op k a).trace =
    writeResults s.trace ++ if a = .rd then [acknowledged (some s.answer)] else [] := by
  rw [State.perform_trace, writeResults_append, writeResults_event]

/-- A WRITE in progress has then sampled exactly if the action was its read or one after it (R21). -/
theorem asmp_perform_eq_none_iff (hseq : s.seqOk) (hq : s.seq = .run .write k) (hk : (s.actions .write)[k]? = some a) :
    (s.perform .write k a).asmp = none ↔ k + 1 ≤ 53 := by
  obtain ⟨-, hwrite⟩ := (State.seqOk_run hq).mp hseq
  obtain ⟨-, hasmp⟩ := hwrite rfl
  have hrd := action_eq_rd_iff s .write k a hk
  rw [State.perform_asmp]
  split
  next ha =>
    have := (hrd.mp ha).2
    simp only [reduceCtorEq, false_iff]
    omega
  next ha =>
    have : k ≠ 53 := fun h => ha (hrd.mpr ⟨rfl, h⟩)
    rw [hasmp]
    omega

end perform

/-- Advancing SEQ leaves the list (R86). -/
@[simp] theorem State.advanceSeq_actions (s : State) (op o : Op) (k : Nat) :
    (s.advanceSeq op k).actions o = s.actions o := by
  simp only [State.actions, State.dataByte, State.advanceSeq_params, State.advanceSeq_data, State.advanceSeq_asmp]

section master
variable {s : State} {op : Op} {k : Nat} {a : LineAction}

/-- After the master's action SEQ is Idle, or one further in its list (R21, R86). -/
theorem master_seqOk (hseq : s.seqOk) (hq : s.seq = .run op k) (hk : (s.actions op)[k]? = some a) :
    ((s.perform op k a).advanceSeq op k).seqOk := by
  have hlt := lt_length_actions_perform hk
  have hadv := State.advanceSeq_seq (s.perform op k a) op k
  split at hadv
  next => exact State.seqOk_idle hadv
  next hend =>
    refine (State.seqOk_run hadv).mpr ⟨by rw [State.advanceSeq_actions]; omega, ?_⟩
    rintro rfl
    obtain ⟨-, hwrite⟩ := (State.seqOk_run hq).mp hseq
    obtain ⟨hdata, -⟩ := hwrite rfl
    simp only [State.advanceSeq_data, State.perform_data, State.advanceSeq_asmp]
    exact ⟨hdata, asmp_perform_eq_none_iff hseq hq hk⟩

theorem master_traceOk (htrace : s.traceOk) (hq : s.seq = .run op k) (hk : (s.actions op)[k]? = some a) :
    ((s.perform op k a).advanceSeq op k).traceOk := by
  have hadv := State.advanceSeq_seq (s.perform op k a) op k
  split at hadv
  next => exact State.traceOk_idle hadv
  next =>
    rw [State.traceOk_run hadv, State.advanceSeq_actions, State.advanceSeq_asmp, State.advanceSeq_trace]
    exact trace_perform_suffix htrace hq hk

theorem master_dirsOk (hdirs : s.dirsOk) : ((s.perform op k a).advanceSeq op k).dirsOk := by
  unfold State.dirsOk at *
  rw [State.advanceSeq_dirs, State.advanceSeq_trace, State.perform_dirs, State.perform_trace, replay_append, ← hdirs]
  rfl

/-- At the end of a WRITE the last result in the trace is whether its own sample was 0 (R24, R35). -/
theorem writeResults_perform_last (hseq : s.seqOk) (htrace : s.traceOk) (hq : s.seq = .run .write k)
    (hk : (s.actions .write)[k]? = some a) (hend : k + 1 = ((s.perform .write k a).actions .write).length) :
    (writeResults (s.perform .write k a).trace).getLast? = some (acknowledged (s.perform .write k a).asmp) := by
  have hlong : 56 ≤ ((s.perform .write k a).actions .write).length := by
    simp only [State.actions, actionList, writeActions_length]
    omega
  have hsome : (s.perform .write k a).asmp ≠ none := fun h => by
    have := (asmp_perform_eq_none_iff hseq hq hk).mp h
    omega
  obtain ⟨v, hv⟩ := Option.ne_none_iff_exists'.mp hsome
  obtain ⟨pre, hpre⟩ := trace_perform_suffix htrace hq hk
  rw [hend, List.take_length, hv, Option.getD_some] at hpre
  rw [← hpre, writeResults_append, State.actions, hv, actionList, writeActions_events, writeResults_writeTrace,
    List.getLast?_concat, acknowledged_some]

theorem master_ackOk (hseq : s.seqOk) (htrace : s.traceOk) (hack : s.ackOk) (hq : s.seq = .run op k)
    (hk : (s.actions op)[k]? = some a) : ((s.perform op k a).advanceSeq op k).ackOk := by
  rw [State.ackOk_run hq] at hack
  have hrd := action_eq_rd_iff s op k a hk
  have hadv := State.advanceSeq_seq (s.perform op k a) op k
  split at hadv
  next hend =>
    rw [State.ackOk_idle hadv, State.advanceSeq_lastAck, State.advanceSeq_trace]
    by_cases hop : op = .write
    · subst hop
      rw [if_pos ⟨hend, rfl⟩]
      exact (writeResults_perform_last hseq htrace hq hk hend).symm
    · have ha : a ≠ .rd := fun h => hop (hrd.mp h).1
      rw [if_neg (fun h => hop h.2), writeResults_perform, if_neg ha, List.append_nil, State.perform_lastAck, hack,
        if_neg (fun h => hop h.1)]
  next hend =>
    rw [State.ackOk_run hadv, State.advanceSeq_lastAck, State.advanceSeq_trace, if_neg (fun h => hend h.1),
      writeResults_perform, State.perform_lastAck, hack]
    by_cases ha : a = .rd
    · obtain ⟨rfl, rfl⟩ := hrd.mp ha
      simp [ha]
    · have hne : op = .write → k ≠ 53 := fun hop h53 => ha (hrd.mpr ⟨hop, h53⟩)
      have hpast : (op = .write ∧ 53 < k + 1) ↔ (op = .write ∧ 53 < k) :=
        and_congr_right fun hop => by have := hne hop; omega
      simp only [if_neg ha, List.append_nil, hpast]

/-- The master's action keeps the invariant (R86). -/
theorem State.Inv.master (hs : s.Inv) (hq : s.seq = .run op k) (hk : (s.actions op)[k]? = some a) :
    ((s.perform op k a).advanceSeq op k).Inv := by
  obtain ⟨hpc, hseq, htrace, hdirs, hack⟩ := hs
  exact ⟨by simpa using hpc, master_seqOk hseq hq hk, master_traceOk htrace hq hk, master_dirsOk hdirs,
    master_ackOk hseq htrace hack hq hk⟩

end master

/-- The acceptance of a request keeps the invariant (R84): none of its actions is done yet. -/
theorem State.Inv.accepted {s : State} (hs : s.Inv) (hq : s.seq = .idle) (hpc : s.pc < s.program.length) (op : Op)
    (d : Byte) : (s.accepted op d).Inv := by
  obtain ⟨-, -, -, hdirs, hack⟩ := hs
  have hrun : (s.accepted op d).seq = .run op 0 := rfl
  refine ⟨hpc, (State.seqOk_run hrun).mpr ⟨actionList_length_pos .., ?_⟩, (State.traceOk_run hrun).mpr (List.nil_suffix),
    hdirs, (State.ackOk_run hrun).mpr ?_⟩
  · rintro rfl
    exact ⟨rfl, by simp [State.accepted]⟩
  · rw [if_neg (by omega)]
    exact (State.ackOk_idle hq).mp hack

/-- Every transition keeps the invariant. The scheduler's fields, the tick flag and FAULT stand nowhere in it. -/
theorem State.Inv.transition {s t : State} (hs : s.Inv) (h : Transition s t) : t.Inv := by
  have hturn : s.takeTurn.Inv := hs
  cases h with
  | timer => exact hturn
  | master op k a _ hq hk => exact hturn.master hq hk
  | accept op d w _ hq hw => exact hturn.accepted hq (pc_lt_of_word hw) op d
  | refuse w e _ hq hw =>
    obtain ⟨-, -, -, hdirs, hack⟩ := hs
    exact ⟨pc_lt_of_word hw, State.seqOk_idle hq, State.traceOk_idle hq, hdirs,
      (State.ackOk_idle (s := s.takeTurn.refuseWord) hq).mpr ((State.ackOk_idle hq).mp hack)⟩
  | endRun => rw [State.endRun_eq]; exact hturn

/-- In a state of the invariant the action in progress is in its list, and a read finds DIO released. -/
theorem State.Inv.exists_action {s : State} (hs : s.Inv) (op : Op) (k : Nat) (hq : s.seq = .run op k) :
    ∃ a, (s.actions op)[k]? = some a ∧ (a = .rd → s.dirs.dio = .released) := by
  have hread := @State.Inv.dio_released_at_read s hs
  obtain ⟨-, hseq, -, -, -⟩ := hs
  have hk := List.getElem?_eq_getElem ((State.seqOk_run hq).mp hseq).1
  refine ⟨_, hk, fun ha => ?_⟩
  obtain ⟨rfl, rfl⟩ := (action_eq_rd_iff s op k _ hk).mp ha
  exact hread hq

/-- Settles O4: in the invariant the action at hand can be performed, so a step answers, and every transition keeps the
invariant. -/
theorem everyStepAnswersAndKeepsTheInvariant : Obligations.EveryStepAnswersAndKeepsTheInvariant := by
  unfold Obligations.EveryStepAnswersAndKeepsTheInvariant
  intro s hs
  obtain ⟨t, ht⟩ := exists_step s hs.exists_action
  exact ⟨t, ht, hs.transition (transition_of_step s t ht)⟩

end Sys2Proof.Machine

/-! The encoding: the decoder against the encoder, the reserved words and codes, and the assembler. -/

namespace Sys2Proof.Machine

/-! ### Decode and encode (R67, R71) -/

/-- The codec is right at every instruction (R67, R71): the laws of the instructions, put together. -/
theorem codec_statement (i : Instr) : Laws.Codec.Statement i := by
  cases i with
  | start => exact Laws.Codec.start
  | stop => exact Laws.Codec.stop
  | write d => exact Laws.Codec.write d
  | drvClk => exact Laws.Codec.drvClk
  | drvDio => exact Laws.Codec.drvDio
  | relClk => exact Laws.Codec.relClk
  | relDio => exact Laws.Codec.relDio
  | rdDio v => exact Laws.Codec.rdDio v
  | wait => exact Laws.Codec.wait

/-- The decoder reads back the word of each instruction (R67, R71). -/
theorem decode_encode (i : Instr) : decode (encode i) = .ok i := by
  obtain ⟨-, hdecode, -⟩ := codec_statement i
  exact hdecode

theorem decodeDrive_format {onClk onDio : Instr} (hclk : onClk.format = .line) (hdio : onDio.format = .line)
    (w : LineWord) (i : Instr) (h : decodeDrive onClk onDio w = .ok i) : i.format = .line := by
  rw [decodeDrive] at h
  split at h
  next => cases h
  split at h <;> cases h <;> assumption

/-- The decoder of line codes answers only line actions (R63, R71). -/
theorem decodeLine_format (w : LineWord) (i : Instr) (h : decode (.line w) = .ok i) : i.format = .line := by
  simp only [decode, decodeLine] at h
  split at h
  next => cases h
  split at h
  next => exact decodeDrive_format rfl rfl w i h
  split at h
  next => exact decodeDrive_format rfl rfl w i h
  split at h
  next => split at h <;> cases h; rfl
  split at h
  next => cases h
  split at h <;> cases h
  rfl

/-- Every instruction of the LINE format is the line action of an event (R63, R70). -/
theorem exists_event_instr (i : Instr) (h : i.format = .line) : ∃ e : Event, i = e.instr := by
  cases i with
  | start | stop | write => cases h
  | drvClk => exact ⟨.drv .clk, rfl⟩
  | drvDio => exact ⟨.drv .dio, rfl⟩
  | relClk => exact ⟨.rel .clk, rfl⟩
  | relDio => exact ⟨.rel .dio, rfl⟩
  | rdDio v => exact ⟨.rd v, rfl⟩
  | wait => exact ⟨.wait, rfl⟩

/-- A line action is recorded as the event it is the action of (R70). -/
theorem event?_instr (e : Event) : e.instr.event? = some e := by
  cases e with
  | drv l | rel l => cases l <;> rfl
  | rd | wait => rfl

/-- The code of an event is that of its line action (R70, R71). -/
theorem encode_instr (e : Event) : encode e.instr = .line e.code := by
  cases e with
  | drv l | rel l => cases l <;> rfl
  | rd v => cases v <;> rfl
  | wait => rfl

/-- A line code that decodes is the encoding of what it decodes to: the event read back from it has that code (R71). -/
theorem encode_of_decodeLine (w : LineWord) (i : Instr) (h : decode (.line w) = .ok i) : encode i = .line w := by
  obtain ⟨e, rfl⟩ := exists_event_instr i (decodeLine_format w i h)
  have hd : decodeLine w = .ok e.instr := h
  have he : decodeEvent w = .ok e := by simp only [decodeEvent, hd, event?_instr]
  rw [encode_instr, code_of_decodeEvent w e he]

/-- Settles O40: the decoder against each instruction, and the encoder against what each of the two decoders answers. -/
theorem decodeAndEncodeAgree : Obligations.DecodeAndEncodeAgree := by
  unfold Obligations.DecodeAndEncodeAgree
  refine ⟨decode_encode, fun c i h => ?_⟩
  cases c with
  | req w => exact encode_of_decodeReq w i h
  | line w => exact encode_of_decodeLine w i h

/-- Settles O41: `decodeReq_write` for the WRITE word, and by evaluation of the six words of one instruction each. -/
theorem spelledWordsDecode : Obligations.SpelledWordsDecode := by
  unfold Obligations.SpelledWordsDecode
  exact ⟨rfl, rfl, decodeReq_write 0x40#8, rfl, rfl, rfl, rfl⟩

/-! ### Reserved words and codes (R69, R73) -/

/-- The selector of a request word as a number (R66). -/
theorem reqOp_toNat (w : ReqWord) : (reqOp w).toNat = w.toNat / 256 := by
  rw [reqOp, BitVec.extractLsb'_toNat, Nat.shiftRight_eq_div_pow]
  omega

/-- The data of a request word as a number (R66). -/
theorem reqData_toNat (w : ReqWord) : (reqData w).toNat = w.toNat % 256 := by
  rw [reqData, BitVec.extractLsb'_toNat, Nat.shiftRight_zero]

/-- The reserved words in terms of the two fields (R69): op 0b00, or op START or STOP with data other than 0. -/
theorem reservedReq_iff (w : ReqWord) : Spec.reservedReq w = true ↔
    reqOp w = 0b00#2 ∨ (reqOp w = 0b01#2 ∨ reqOp w = 0b10#2) ∧ reqData w ≠ 0#8 := by
  simp [Spec.reservedReq, ← BitVec.toNat_inj, reqOp_toNat, reqData_toNat]

/-- The decoder rejects exactly the reserved request words (R69, R77). -/
theorem decodeReq_rejects_iff (w : ReqWord) : (∃ e, decode (.req w) = .error e) ↔ Spec.reservedReq w = true := by
  rw [reservedReq_iff]
  have hop : reqOp w = 0b00#2 ∨ reqOp w = 0b01#2 ∨ reqOp w = 0b10#2 ∨ reqOp w = 0b11#2 := by
    generalize reqOp w = op
    revert op
    decide
  rcases hop with hop | hop | hop | hop <;> by_cases hdata : reqData w = 0#8 <;> simp [decode, decodeReq, hop, hdata]

/-- Whether a word is reserved, its fields given as numbers (R66, R69). -/
theorem reservedReq_ofNat (op n : Nat) (hop : op < 4) (hn : n < 256) :
    Spec.reservedReq (BitVec.ofNat 10 (256 * op + n)) = (op == 0 || (op == 1 || op == 2) && n != 0) := by
  have hword : (BitVec.ofNat 10 (256 * op + n)).toNat = 256 * op + n :=
    (BitVec.toNat_ofNat ..).trans (Nat.mod_eq_of_lt (by omega))
  have hdiv : (256 * op + n) / 256 = op := by omega
  have hmod : (256 * op + n) % 256 = n := by omega
  rw [Spec.reservedReq, hword, hdiv, hmod]

/-- How many of the first m request words are legal (R69). -/
def legalBelow (m : Nat) : Nat :=
  (List.range m).countP fun n => !Spec.reservedReq (BitVec.ofNat 10 n)

/-- The words of one op follow those of the ops below it, one for each byte (R66). -/
theorem legalBelow_add_256 (op : Nat) (hop : op < 4) : legalBelow (256 * op + 256) =
    legalBelow (256 * op) + (List.range 256).countP fun n => !(op == 0 || (op == 1 || op == 2) && n != 0) := by
  rw [legalBelow, List.range_add, List.countP_append, List.countP_map]
  congr 1
  refine List.countP_congr fun n hn => ?_
  rw [Function.comp_apply, reservedReq_ofNat op n hop (List.mem_range.mp hn)]

/-- 258 request words are legal (R69): none of op 0b00, the one with data 0 of START and of STOP, and every WRITE. -/
theorem legalBelow_1024 : legalBelow 1024 = 258 := by
  have hzero : (List.range 256).countP (fun n => !(n != 0)) = 1 := by
    simp only [bne, Bool.not_not]
    exact List.count_range.trans (if_pos (by omega))
  have h0 : legalBelow 256 = 0 := (legalBelow_add_256 0 (by omega)).trans (by simp [legalBelow])
  have h1 : legalBelow 512 = 1 := (legalBelow_add_256 1 (by omega)).trans (by simp [h0, hzero])
  have h2 : legalBelow 768 = 2 := (legalBelow_add_256 2 (by omega)).trans (by simp [h1, hzero])
  exact (legalBelow_add_256 3 (by omega)).trans (by simp [h2])

/-- Settles O42: the fields of a word say whether it is reserved, and the legal words are counted op by op. -/
theorem reservedRequestWordsAreRejected : Obligations.ReservedRequestWordsAreRejected := by
  unfold Obligations.ReservedRequestWordsAreRejected
  exact ⟨decodeReq_rejects_iff, legalBelow_1024⟩

/-- A code word is rejected if it decodes to no instruction. -/
theorem decode_rejects_iff (c : CodeWord) : (∃ e, decode c = .error e) ↔ (decode c).isOk = false := by
  cases decode c <;> simp [Except.isOk, Except.toBool]

/-- The codes the decoder of line codes accepts are those outside R73's list: checked for each of the 32. -/
theorem decodeLine_isOk_iff (w : LineWord) : (decode (.line w)).isOk = true ↔ w.toNat ∉ Spec.reservedLine := by
  revert w
  decide

/-- Settles O43: the codes outside the list are those that decode, and the code of an event decodes to its action. -/
theorem reservedLineCodesAreRejected : Obligations.ReservedLineCodesAreRejected := by
  unfold Obligations.ReservedLineCodesAreRejected
  refine ⟨fun w => ?_, fun e => (decodeLine_isOk_iff _).mp ?_⟩
  · rw [decode_rejects_iff, ← Bool.not_eq_true, decodeLine_isOk_iff, Decidable.not_not]
  · rw [← encode_instr, decode_encode]
    rfl

/-! ### The assembler (R79, R80) -/

/-- The word of a WRITE (R67). -/
def writeWord (d : Byte) : ReqWord :=
  0x300#10 ||| d.setWidth 10

/-- The word of WRITE n is 0x300 + n (R66, R67): n does not reach the bits of op. -/
theorem writeWord_ofNat (n : Nat) (hn : isImm8 n = true) :
    writeWord (BitVec.ofNat 8 n) = BitVec.ofNat 10 (0x300 + n) := by
  have hlt : n < 2 ^ 8 := Nat.lt_succ_of_le (of_decide_eq_true hn)
  apply BitVec.eq_of_toNat_eq
  calc (writeWord (BitVec.ofNat 8 n)).toNat
      = 0x300 ||| n := by
        rw [writeWord, BitVec.toNat_or, BitVec.toNat_setWidth_of_le (by omega), BitVec.toNat_ofNat n,
          Nat.mod_eq_of_lt hlt]
        rfl
    _ = 0x300 + n := (Nat.two_pow_add_eq_or_of_lt hlt 3).symm
    _ = (BitVec.ofNat 10 (0x300 + n)).toNat := by
        rw [BitVec.toNat_ofNat, Nat.mod_eq_of_lt (by omega)]

theorem reqWords_append (xs ys : List Instr) : reqWords (xs ++ ys) = reqWords xs ++ reqWords ys :=
  List.filterMap_append

theorem reqWords_writes (ds : List Byte) : reqWords (ds.map .write) = ds.map writeWord := by
  rw [reqWords, List.filterMap_map, ← List.filterMap_eq_map]
  rfl

/-- The words of FRAME (R80). -/
theorem reqWords_frameInstrs (ds : List Byte) :
    reqWords (frameInstrs ds) = 0x100#10 :: ds.map writeWord ++ [0x200#10] := by
  rw [frameInstrs, List.cons_append, ← List.singleton_append, reqWords_append, reqWords_append, reqWords_writes]
  rfl

/-- The words of the bytes given by numbers in range (R79). -/
theorem map_writeWord_ofNat (ns : List Nat) (h : ns.all isImm8 = true) :
    (ns.map (BitVec.ofNat 8)).map writeWord = ns.map fun n => BitVec.ofNat 10 (0x300 + n) := by
  rw [List.map_map]
  exact List.map_congr_left fun n hn => writeWord_ofNat n (List.all_eq_true.mp h n hn)

/-- A list of numbers is bytes if every number is in range (R79). -/
theorem asmBytes_eq (ns : List Nat) : asmBytes ns =
    if ns.all isImm8 then .ok (ns.map (BitVec.ofNat 8)) else .error .immRange := by
  induction ns with
  | nil => rfl
  | cons n ns ih =>
    rw [asmBytes, asmByte, ih, List.all_cons]
    cases isImm8 n <;> cases ns.all isImm8 <;> rfl

/-- A line whose requests are those of FRAME (R80): the words of its leading bytes and of its numbers, which are
checked. -/
theorem assemble_of_asmFrame {l : AsmLine} (lead : List Byte) (ns : List Nat) (hl : expand l = asmFrame lead ns) :
    assemble l = if ns.all isImm8 then
      .ok (0x100#10 :: (lead.map writeWord ++ ns.map fun n => BitVec.ofNat 10 (0x300 + n)) ++ [0x200#10])
      else .error .immRange := by
  rw [assemble, hl, asmFrame, asmBytes_eq]
  cases hns : ns.all isImm8 with
  | false => rfl
  | true =>
    rw [← map_writeWord_ofNat ns hns, ← List.map_append, ← reqWords_frameInstrs]
    rfl

theorem assemble_write (n : Nat) : assemble (.write n) =
    if isImm8 n then .ok [writeWord (BitVec.ofNat 8 n)] else .error .immRange := by
  rw [assemble, expand, asmByte]
  cases isImm8 n <;> rfl

/-- The word of a display-on byte whose brightness is in range (R74, R80). -/
theorem writeWord_displayOnByte (b : Nat) (hb : b ≤ 7) :
    writeWord (displayOnByte b) = BitVec.ofNat 10 (0x388 + b) := by
  have himm : isImm8 (0x88 + b) = true := decide_eq_true (by omega)
  exact (writeWord_ofNat (0x88 + b) himm).trans (congrArg (BitVec.ofNat 10) (Nat.add_assoc 0x300 0x88 b).symm)

/-- DISPON is FRAME of its display-on byte, or is rejected (R80). -/
theorem assemble_dispOn (b : Nat) : assemble (.dispOn b) =
    if b ≤ 7 then .ok [0x100#10, BitVec.ofNat 10 (0x388 + b), 0x200#10] else .error .configRange := by
  split
  next hb =>
    rw [← writeWord_displayOnByte b hb]
    exact assemble_of_asmFrame [displayOnByte b] [] (if_pos hb)
  next hb => rw [assemble, expand, if_neg hb]

theorem wellFormed_setDigits (a b c d : Nat) : (AsmLine.setDigits a b c d).wellFormed = [a, b, c, d].all isImm8 := by
  simp [AsmLine.wellFormed, Bool.and_assoc]

/-- A well-formed line assembles to its words (R79, R80). -/
theorem assemble_wellFormed (l : AsmLine) (h : l.wellFormed = true) : assemble l = .ok (Spec.lineWords l) := by
  cases l with
  | start | stop => rfl
  | write n => exact (assemble_write n).trans ((if_pos h).trans (by rw [writeWord_ofNat n h]; rfl))
  | frame ns => exact (assemble_of_asmFrame [] ns rfl).trans (if_pos h)
  | setMode => exact assemble_of_asmFrame [Config.cmdSetDataMode] [] rfl
  | setDigits a b c d =>
    rw [wellFormed_setDigits] at h
    exact (assemble_of_asmFrame [Config.cmdStartAddress] [a, b, c, d] rfl).trans (if_pos h)
  | dispOn b => exact (assemble_dispOn b).trans (if_pos (of_decide_eq_true h))
  | dispOff => exact assemble_of_asmFrame [Config.cmdDisplayOff] [] rfl

/-- Any other line is rejected (R79, R80). -/
theorem assemble_not_wellFormed (l : AsmLine) (h : l.wellFormed = false) : ∃ e, assemble l = .error e := by
  cases l with
  | start | stop | setMode | dispOff => cases h
  | write n => exact ⟨_, (assemble_write n).trans (if_neg (Bool.eq_false_iff.mp h))⟩
  | frame ns => exact ⟨_, (assemble_of_asmFrame [] ns rfl).trans (if_neg (Bool.eq_false_iff.mp h))⟩
  | setDigits a b c d =>
    rw [wellFormed_setDigits] at h
    exact ⟨_, (assemble_of_asmFrame [Config.cmdStartAddress] [a, b, c, d] rfl).trans
      (if_neg (Bool.eq_false_iff.mp h))⟩
  | dispOn b => exact ⟨_, (assemble_dispOn b).trans (if_neg (of_decide_eq_false h))⟩

/-- The word of a request decodes, so it is not reserved (R67, R69). -/
theorem not_reservedReq_of_mem_reqWords {is : List Instr} {w : ReqWord} (hw : w ∈ reqWords is) :
    Spec.reservedReq w = false := by
  obtain ⟨i, -, hi⟩ := List.mem_filterMap.mp hw
  have hcode : encode i = .req w := by
    rw [Instr.reqWord?] at hi
    split at hi
    next w' hcode => cases hi; exact hcode
    next => cases hi
  refine Bool.eq_false_iff.mpr fun hres => ?_
  obtain ⟨e, he⟩ := (decodeReq_rejects_iff w).mpr hres
  cases he.symm.trans ((congrArg decode hcode).symm.trans (decode_encode i))

/-- Settles O45: most lines are FRAME of some bytes, and every word made is a request's. -/
theorem theAssemblerAcceptsWellFormedLines : Obligations.TheAssemblerAcceptsWellFormedLines := by
  unfold Obligations.TheAssemblerAcceptsWellFormedLines
  refine fun l => ⟨assemble_wellFormed l, assemble_not_wellFormed l, fun ws hws w hw => ?_⟩
  rw [assemble] at hws
  split at hws
  next => cases hws; exact not_reservedReq_of_mem_reqWords hw
  next => cases hws

end Sys2Proof.Machine

/-! The sequencer and the line actions: what the thread's step answers from each kind of state, what an action does to a
line, and the runs of several steps: a request to its completion, and the interrupt's steps among the thread's. -/

namespace Sys2Proof.Machine

/-! ### The thread's step (R83) -/

/-- With a request in progress the thread's step is the master's (R86). -/
theorem threadStep_run {s : State} {op : Op} {k : Nat} (hq : s.seq = .run op k) :
    threadStep s = masterStep op k s := by
  simp only [threadStep, hq]

/-- From Idle with a word at pc the thread's step is its acceptance (R84). -/
theorem threadStep_word {s : State} {w : ReqWord} (hq : s.seq = .idle) (hw : s.program[s.pc]? = some w) :
    threadStep s = accept w s := by
  simp only [threadStep, hq, State.fetch, hw]

/-- The master's step is its action's meaning, the receiver met before it and SEQ advanced after it (R86). -/
theorem masterStep_action {s : State} {op : Op} {k : Nat} {a : LineAction} (ha : (s.actions op)[k]? = some a) :
    masterStep op k s =
      andThen (exec (a.instr s.answer) (s.meetReceiver op k a)) fun t => t.advanceSeq op k := by
  rw [masterStep, ha]

/-- Past the end of the list the master's step stops (R21). -/
theorem masterStep_overrun {s : State} {op : Op} {k : Nat} (ha : (s.actions op)[k]? = none) :
    masterStep op k s = .fault .sequencerOverrun := by
  rw [masterStep, ha]

/-- From Idle at the end of the program the thread's step is the end of the run (R185). -/
theorem threadStep_end {s : State} (hq : s.seq = .idle) (hw : s.program[s.pc]? = none) :
    threadStep s = .next s.endRun := by
  simp only [threadStep, hq, State.fetch, hw]

/-- What the thread's step answers at an action that can be performed (R86). -/
theorem threadStep_master {s : State} {op : Op} {k : Nat} {a : LineAction} (hq : s.seq = .run op k)
    (ha : (s.actions op)[k]? = some a) (hrd : a = .rd → s.dirs.dio = .released) :
    threadStep s = .next ((s.perform op k a).advanceSeq op k) :=
  (threadStep_run hq).trans (masterStep_eq op k s a ha hrd)

/-- A word that decodes is accepted by running its request (R84). -/
theorem accept_of_decode {w : ReqWord} {i : Instr} (s : State) (hd : decode (.req w) = .ok i) :
    accept w s = exec i s := by
  simp only [accept, hd]

/-- Settles O5: `step`, `threadStep` and `masterStep` unfolded along the hypotheses. -/
theorem stepRunsTheDecodedInstruction : Obligations.StepRunsTheDecodedInstruction := by
  unfold Obligations.StepRunsTheDecodedInstruction
  have thread : ∀ s : State, s.agent = .thread → step s = threadStep s.takeTurn := by
    intro s hs
    rw [step, hs, agentStep]
  refine ⟨fun s w i hs hq hw hd => ?_, fun s op k a hs hq ha => ?_⟩
  · calc step s = accept w s.takeTurn := (thread s hs).trans (threadStep_word hq hw)
      _ = exec i s.takeTurn := accept_of_decode _ hd
  · calc step s = masterStep op k s.takeTurn := (thread s hs).trans (threadStep_run hq)
      _ = andThen (exec (a.instr s.answer) (s.takeTurn.meetReceiver op k a)) fun t => t.advanceSeq op k :=
        masterStep_action (s := s.takeTurn) ha

/-- Settles O8: the timer's move is `timerInterrupt` on the state with the choice taken. -/
theorem timerStepSetsOnlyTheTick : Obligations.TimerStepSetsOnlyTheTick := by
  unfold Obligations.TimerStepSetsOnlyTheTick
  intro s hs
  rw [step, hs]
  rfl

/-! ### The acceptance of a word (R84, R85) -/

theorem State.accepted_start (s : State) (d : Byte) : s.accepted .start d =
    { s with pc := s.pc + 1, frameOpen := true, seq := .run .start 0,
             faults := Spec.withFraming s.frameOpen s.faults } := rfl

theorem State.accepted_stop (s : State) (d : Byte) : s.accepted .stop d =
    { s with pc := s.pc + 1, frameOpen := false, seq := .run .stop 0,
             faults := Spec.withFraming (!s.frameOpen) s.faults } := rfl

theorem State.accepted_write (s : State) (d : Byte) : s.accepted .write d =
    { s with pc := s.pc + 1, data := some d, asmp := none, seq := .run .write 0,
             faults := Spec.withFraming (!s.frameOpen) s.faults } := rfl

/-- A word that decodes is not reserved (R69, R77). -/
theorem not_reservedReq_of_decode {w : ReqWord} {i : Instr} (hd : decode (.req w) = .ok i) :
    Spec.reservedReq w = false := by
  refine Bool.eq_false_iff.mpr fun hres => ?_
  obtain ⟨e, he⟩ := (decodeReq_rejects_iff w).mpr hres
  cases hd.symm.trans he

/-- Settles O6: a word is refused exactly if it is reserved, and else is the encoding of the request it is accepted as. -/
theorem acceptanceOfEveryWord : Obligations.AcceptanceOfEveryWord := by
  unfold Obligations.AcceptanceOfEveryWord
  intro s w hq hw
  rw [threadStep_word hq hw]
  rcases accept_cases w s with ⟨i, hd, hacc⟩ | ⟨e, hd, hacc⟩
  · obtain ⟨op, d, rfl⟩ := exists_requestInstr i (decodeReq_format w i hd)
    have hcode := encode_of_decodeReq w _ hd
    rw [hacc, exec_requestInstr_idle s op d hq, not_reservedReq_of_decode hd]
    cases op with
    | start => cases hcode; rw [State.accepted_start]; rfl
    | stop => cases hcode; rw [State.accepted_stop]; rfl
    | write =>
      cases hcode
      have hop := reqOp_toNat (0x300#10 ||| d.setWidth 10)
      have hdata := reqData_toNat (0x300#10 ||| d.setWidth 10)
      rw [reqOp_write] at hop
      rw [reqData_write] at hdata
      rw [← hop, ← hdata, BitVec.ofNat_toNat, BitVec.setWidth_eq, State.accepted_write]
      rfl
  · rw [hacc, (decodeReq_rejects_iff w).mp ⟨e, hd⟩]
    rfl

/-! ### The line actions (R89 to R92) -/

/-- A line is high exactly if no one drives it: the master, or for DIO the receiver (R27). -/
theorem Wire.level_eq_high_iff (w : Wire) (l : Line) :
    w.level l = .high ↔ w.dirs.get l = .released ∧ (l = .dio → w.rx = .released) := by
  cases l <;> simp [Wire.level, Dirs.get]

theorem level_eq_low_iff (v : Level) : v = .low ↔ v ≠ .high := by
  cases v <;> decide

/-- A line that the master drives is low (R27). -/
theorem Wire.level_eq_low_of_driven {w : Wire} {l : Line} (h : w.dirs.get l = .driven) : w.level l = .low := by
  simp [level_eq_low_iff, Wire.level_eq_high_iff, h]

/-- While the master releases DIO, its level is the receiver's doing (R27). -/
theorem State.level_dio_eq_high_iff {s : State} (h : s.dirs.dio = .released) :
    s.level .dio = .high ↔ s.rxDio = .released :=
  (Wire.level_eq_high_iff _ _).trans ⟨fun ⟨_, hrx⟩ => hrx rfl, fun hrx => ⟨h, fun _ => hrx⟩⟩

/-- Settles O17: by evaluation, and a driven line is low. -/
theorem driveLowDrivesItsLine : Obligations.DriveLowDrivesItsLine := by
  unfold Obligations.DriveLowDrivesItsLine
  exact ⟨fun s => ⟨_, rfl, rfl, Wire.level_eq_low_of_driven rfl⟩, fun s => ⟨_, rfl, rfl, Wire.level_eq_low_of_driven rfl⟩,
    rfl, rfl⟩

/-- Settles O18: by evaluation, and a released line is high if no one else drives it. -/
theorem releaseReleasesItsLine : Obligations.ReleaseReleasesItsLine := by
  unfold Obligations.ReleaseReleasesItsLine
  exact ⟨fun s => ⟨_, rfl, rfl, (Wire.level_eq_high_iff _ _).mpr ⟨rfl, nofun⟩⟩,
    fun s => ⟨_, rfl, rfl, State.level_dio_eq_high_iff rfl⟩, rfl, rfl⟩

/-- Settles O19: `exec_action` at a read. -/
theorem readRecordsTheSample : Obligations.ReadRecordsTheSample := by
  unfold Obligations.ReadRecordsTheSample
  exact ⟨fun s v h => exec_action .rd v s fun _ => h, rfl, rfl⟩

/-- Settles O20: of the two directions of DIO a read is defined for the released one only. -/
theorem readWhileDrivenStops : Obligations.ReadWhileDrivenStops := by
  unfold Obligations.ReadWhileDrivenStops
  intro s v h
  simp only [exec, execRdDio, h]

/-- Settles O21: `exec_action` at a WAIT. -/
theorem waitOnlyEmits : Obligations.WaitOnlyEmits := by
  unfold Obligations.WaitOnlyEmits
  exact ⟨fun s => exec_action .wait .high s nofun, rfl⟩

/-! ### Edges (R94) -/

theorem edgeBetween_eq_fall_iff (u v : Level) : edgeBetween u v = some .fall ↔ u = .high ∧ v ≠ .high := by
  cases u <;> cases v <;> decide

theorem edgeBetween_eq_rise_iff (u v : Level) : edgeBetween u v = some .rise ↔ u ≠ .high ∧ v = .high := by
  cases u <;> cases v <;> decide

/-- An event moves the direction of the line it names, and no other (R89, R90). -/
theorem Dirs.get_after (d : Dirs) (e : Event) (l : Line) :
    (d.after e).get l = if e = .drv l then .driven else if e = .rel l then .released else d.get l := by
  cases e with
  | drv m => cases m <;> cases l <;> rfl
  | rel m => cases m <;> cases l <;> rfl
  | rd | wait => simp [Dirs.after]

/-- When a line is high after an event: the event releases it, or finds it released and does not drive it, and for DIO the
receiver releases it (R27, R94). -/
theorem Wire.after_level_eq_high_iff (w : Wire) (e : Event) (l : Line) : (w.after e).level l = .high ↔
    (e = .rel l ∨ e ≠ .drv l ∧ w.dirs.get l = .released) ∧ (l = .dio → w.rx = .released) := by
  rw [Wire.level_eq_high_iff, Wire.after, Dirs.get_after]
  refine and_congr_left fun _ => ?_
  by_cases hdrv : e = .drv l
  · simp [hdrv]
  · by_cases hrel : e = .rel l <;> simp [hdrv, hrel]

theorem dir_ne_released_iff (d : Dir) : d ≠ .released ↔ d = .driven := by
  cases d <;> decide

/-- Settles O32: an edge is a level that is high on one side of the event only. -/
theorem edgesComeOnlyFromTheirOwnLine : Obligations.EdgesComeOnlyFromTheirOwnLine := by
  unfold Obligations.EdgesComeOnlyFromTheirOwnLine
  intro w e l
  rw [Wire.edge, edgeBetween_eq_fall_iff, edgeBetween_eq_rise_iff, Ne, Ne, Wire.after_level_eq_high_iff,
    Wire.level_eq_high_iff, ← dir_ne_released_iff]
  constructor
  · constructor
    · rintro ⟨⟨hdir, hrx⟩, hlow⟩
      exact ⟨Decidable.byContradiction fun hdrv => hlow ⟨.inr ⟨hdrv, hdir⟩, hrx⟩, hdir, hrx⟩
    · rintro ⟨rfl, hhigh⟩
      exact ⟨hhigh, by simp⟩
  · constructor
    · rintro ⟨hlow, hafter, hrx⟩
      have hdir : w.dirs.get l ≠ .released := fun h => hlow ⟨h, hrx⟩
      exact ⟨hafter.resolve_right fun h => hdir h.2, hdir, hrx⟩
    · rintro ⟨rfl, hdir, hrx⟩
      exact ⟨fun h => hdir h.1, .inl rfl, hrx⟩

/-! ### The master's action (R86) -/

@[simp] theorem State.perform_answers (s : State) (op : Op) (k : Nat) (a : LineAction) :
    (s.perform op k a).answers = if a = .rd then s.answers.tail else s.answers := rfl

@[simp] theorem State.advanceSeq_answers (s : State) (op : Op) (k : Nat) :
    (s.advanceSeq op k).answers = s.answers := by rw [State.advanceSeq_eq]

/-- Settles O7: the state that `threadStep_master` gives, read field by field. -/
theorem masterStepPerformsTheIndexedAction : Obligations.MasterStepPerformsTheIndexedAction := by
  unfold Obligations.MasterStepPerformsTheIndexedAction
  intro s op k a hq ha hrd
  refine ⟨_, threadStep_master hq ha hrd, State.advanceSeq_trace .., State.advanceSeq_dirs .., State.advanceSeq_asmp ..,
    ?_, ?_, ?_⟩
  · rw [State.advanceSeq_asmp]
    intro hend
    have hlen : k + 1 = ((s.perform op k a).actions op).length := hend
    refine ⟨by rw [State.advanceSeq_seq, if_pos hlen], ?_⟩
    rw [State.advanceSeq_lastAck]
    simp only [hlen, true_and]
    rfl
  · rw [State.advanceSeq_asmp]
    intro hmore
    have hlen : k + 1 ≠ ((s.perform op k a).actions op).length := hmore
    exact ⟨by rw [State.advanceSeq_seq, if_neg hlen], by rw [State.advanceSeq_lastAck, if_neg fun h => hlen h.1]; rfl⟩
  · rw [State.advanceSeq_eq]
    rfl

/-- At the read of a WRITE the thread's step records the answer drawn (R91). -/
theorem threadStep_read {s : State} (hq : s.seq = .run .write 53) (hdio : s.dirs.dio = .released) :
    ∃ t, threadStep s = .next t ∧ t.asmp = some s.answer ∧ t.trace = s.trace ++ [.rd s.answer] ∧
      t.answers = s.answers.tail :=
  ⟨_, threadStep_master hq (a := .rd) rfl fun _ => hdio, State.advanceSeq_asmp .., State.advanceSeq_trace ..,
    State.advanceSeq_answers ..⟩

/-- Settles O22: the read records the answer, which is the imposed one if there is one and else the free one. -/
theorem eitherAnswerIsAdmitted : Obligations.EitherAnswerIsAdmitted := by
  unfold Obligations.EitherAnswerIsAdmitted
  refine ⟨fun s v hq hdio => threadStep_read (s := { s with answers := v :: s.answers }) hq hdio,
    fun s hq hdio hnone => ?_⟩
  obtain ⟨t, ht, hasmp, -, -⟩ := threadStep_read hq hdio
  have hfree : s.answer = Config.freeAnswer s.draws := by rw [State.answer, hnone]
  exact ⟨t, ht, by rw [hasmp, hfree]⟩

/-- Settles O60: the directions after the action are the replay of the trace, and outside the window the receiver's drive
is released. -/
theorem levelsFollowTheTraceOutsideTheWindow : Obligations.LevelsFollowTheTraceOutsideTheWindow := by
  unfold Obligations.LevelsFollowTheTraceOutsideTheWindow
  intro s t op k ⟨_, _, _, hdirs, _⟩ hq h
  obtain ⟨hwindow, -⟩ := theReceiverKeepsToItsWindow s t op k hq h
  rw [threadStep_run hq] at h
  obtain ⟨a, -, -, rfl⟩ := masterStep_next_perform op k s t h
  have hreplay : ((s.perform op k a).advanceSeq op k).dirs = _ := master_dirsOk hdirs
  obtain ⟨hclk, hdio⟩ := levelsAreTheWiredAnd ((s.perform op k a).advanceSeq op k)
  rw [← hreplay]
  refine ⟨⟨a.event s.answer, State.advanceSeq_trace .., ?_⟩, hclk, fun hout => ?_, State.level_dio_eq_high_iff⟩
  · rw [State.wire, State.advanceSeq_dirs]
    rfl
  · rw [hdio, hwindow hout]
    simp

/-! ### A request to its completion (R87) -/

/-- Go on from a next state with g; pass a stop on. -/
def bindNext (o : Host.Outcome State Fault Refusal) (g : State → Host.Outcome State Fault Refusal) :
    Host.Outcome State Fault Refusal :=
  match o with
  | .next s => g s
  | .fault r => .fault r
  | .refused r => .refused r

theorem bindNext_andThen (o : Host.Outcome State Fault Refusal) (f : State → State)
    (g : State → Host.Outcome State Fault Refusal) : bindNext (andThen o f) g = bindNext o fun s => g (f s) := by
  cases o <;> rfl

theorem andThen_bindNext (o : Host.Outcome State Fault Refusal) (g : State → Host.Outcome State Fault Refusal)
    (f : State → State) : andThen (bindNext o g) f = bindNext o fun s => andThen (g s) f := by
  cases o <;> rfl

theorem runAgents_cons (a : Agent) (as : List Agent) (s : State) :
    runAgents (a :: as) s = bindNext (agentStep a s) (runAgents as) := by
  rw [runAgents]
  cases agentStep a s <;> rfl

theorem runThread_succ (n : Nat) (s : State) : runThread (n + 1) s = bindNext (threadStep s) (runThread n) :=
  runAgents_cons .thread (List.replicate n .thread) s

theorem runThread_succ_of_next {s t : State} (n : Nat) (h : threadStep s = .next t) :
    runThread (n + 1) s = runThread n t := by
  rw [runThread_succ, h, bindNext]

/-- A request in progress at index k completes after as many master steps as its list then has actions beyond the first k
(R87). The list is the one of the completed request: the sample may still be to come. -/
theorem State.Inv.completes {s : State} {op : Op} {k : Nat} (hs : s.Inv) (hq : s.seq = .run op k) :
    ∃ n t, runThread n s = .next t ∧ t.seq = .idle ∧ k + n = (t.actions op).length ∧
      t.trace.length = s.trace.length + n := by
  obtain ⟨a, ha, hrd⟩ := hs.exists_action op k hq
  have hstep := threadStep_master hq ha hrd
  have hadv := State.advanceSeq_seq (s.perform op k a) op k
  have hlt := lt_length_actions_perform ha
  have hle : ((s.perform op k a).actions op).length ≤ 58 := actionList_length_le ..
  split at hadv
  next hend =>
    refine ⟨1, _, runThread_succ_of_next 0 hstep, hadv, ?_, ?_⟩
    · rw [State.advanceSeq_actions, hend]
    · simp
  next hmore =>
    obtain ⟨n, t, hrun, hidle, hlen, htrace⟩ := (hs.master hq ha).completes hadv
    refine ⟨n + 1, t, (runThread_succ_of_next n hstep).trans hrun, hidle, by omega, ?_⟩
    rw [htrace]
    simp
    omega
termination_by 58 - k

/-- Settles O11: `State.Inv.completes` from index 0; no list is longer than 58. -/
theorem everyAcceptedRequestCompletes : Obligations.EveryAcceptedRequestCompletes := by
  unfold Obligations.EveryAcceptedRequestCompletes
  intro s op hs hq
  obtain ⟨n, t, hrun, hidle, hlen, htrace⟩ := hs.completes hq
  rw [Nat.zero_add] at hlen
  exact ⟨n, t, hlen ▸ actionList_length_le .., hrun, hidle, hlen, htrace⟩

/-! ### The interrupt's steps among the thread's (R88) -/

/-- The state s with the tick flag and the scheduler's fields of e: `s.sameBlock t` says that `s.withClock t` is t. -/
def State.withClock (s e : State) : State :=
  { s with tick := e.tick, sched := e.sched, turns := e.turns }

/-- States that agree once their clocks are made the same agree on the block (R88). -/
theorem sameBlock_of_withClock_eq {s t e : State} (h : s.withClock e = t.withClock e) : s.sameBlock t := by
  have hclock : (s.withClock e).withClock t = (t.withClock e).withClock t := by rw [h]
  exact hclock

theorem andThen_eq_next {o : Host.Outcome State Fault Refusal} {f : State → State} {t : State}
    (h : andThen o f = .next t) : ∃ s, o = .next s ∧ f s = t := by
  cases o with
  | next s => exact ⟨s, rfl, by injection h⟩
  | fault | refused => cases h

theorem andThen_andThen (o : Host.Outcome State Fault Refusal) (f g : State → State) :
    andThen (andThen o f) g = andThen o fun t => g (f t) := by
  cases o <;> rfl

/-- A line action neither reads nor writes the clock. -/
theorem exec_action_withClock (a : LineAction) (v : Level) (s e : State) :
    exec (a.instr v) (s.withClock e) = andThen (exec (a.instr v) s) fun t => t.withClock e := by
  by_cases hrd : a = .rd → s.dirs.dio = .released
  · have hclock : a = .rd → (s.withClock e).dirs.dio = .released := hrd
    rw [exec_action a v s hrd, exec_action a v (s.withClock e) hclock]
    rfl
  · obtain ⟨rfl, hdio⟩ := Classical.not_imp.mp hrd
    have stops : ∀ u : State, u.dirs.dio = s.dirs.dio → exec (LineAction.rd.instr v) u = .fault .readWhileDriven :=
      fun u hu => readWhileDrivenStops u v (hu.trans ((dir_ne_released_iff _).mp hdio))
    rw [stops s rfl, stops (s.withClock e) rfl]
    rfl

theorem State.advanceSeq_withClock (s e : State) (op : Op) (k : Nat) :
    (s.withClock e).advanceSeq op k = (s.advanceSeq op k).withClock e := by
  rw [State.advanceSeq_eq, State.advanceSeq_eq]
  rfl

theorem masterStep_withClock (op : Op) (k : Nat) (s e : State) :
    masterStep op k (s.withClock e) = andThen (masterStep op k s) fun t => t.withClock e := by
  cases ha : (s.actions op)[k]? with
  | none => rw [masterStep_overrun ha, masterStep_overrun (s := s.withClock e) ha]; rfl
  | some a =>
    have hmet : (s.withClock e).meetReceiver op k a = (s.meetReceiver op k a).withClock e := rfl
    rw [masterStep_action ha, masterStep_action (s := s.withClock e) ha, hmet, exec_action_withClock, andThen_andThen,
      andThen_andThen]
    simp only [State.advanceSeq_withClock]
    rfl

theorem accept_withClock (w : ReqWord) (s e : State) (hq : s.seq = .idle) :
    accept w (s.withClock e) = andThen (accept w s) fun t => t.withClock e := by
  rcases accept_cases w s with ⟨i, hd, hacc⟩ | ⟨r, hd, hacc⟩
  · obtain ⟨op, d, rfl⟩ := exists_requestInstr i (decodeReq_format w i hd)
    rw [accept_of_decode _ hd, accept_of_decode _ hd, exec_requestInstr_idle s op d hq,
      exec_requestInstr_idle (s.withClock e) op d hq]
    rfl
  · rw [hacc, accept, hd]
    rfl

/-- The thread's step neither reads nor writes the tick flag and the scheduler's fields (R88, R155). -/
theorem threadStep_withClock (s e : State) :
    threadStep (s.withClock e) = andThen (threadStep s) fun t => t.withClock e := by
  rcases threadStep_cases s with ⟨op, k, hq, ht⟩ | ⟨w, hq, hw, ht⟩ | ⟨hq, hw, ht⟩
  · rw [ht, threadStep_run (s := s.withClock e) hq, masterStep_withClock]
  · rw [ht, threadStep_word (s := s.withClock e) hq hw, accept_withClock w s e hq]
  · rw [ht, threadStep_end (s := s.withClock e) hq hw, State.endRun_eq, State.endRun_eq]
    rfl

/-- Nor do the thread's steps together. -/
theorem runThread_withClock (n : Nat) (s e : State) :
    runThread n (s.withClock e) = andThen (runThread n s) fun t => t.withClock e := by
  induction n generalizing s with
  | zero => rfl
  | succ n ih =>
    rw [runThread_succ, runThread_succ, threadStep_withClock, bindNext_andThen, andThen_bindNext]
    simp only [ih]

/-- Any interleaving answers what the thread's own steps answer, the clock apart (R88): an interrupt's step changes the
clock only. -/
theorem runAgents_withClock (as : List Agent) (s e : State) :
    andThen (runAgents as s) (fun t => t.withClock e) =
      andThen (runThread (as.count .thread) s) fun t => t.withClock e := by
  induction as generalizing s with
  | nil => rfl
  | cons a as ih =>
    cases a with
    | timer =>
      have hcount : (Agent.timer :: as).count .thread = as.count .thread := List.count_cons_of_ne (by decide)
      have hclock : s.timerInterrupt = s.withClock s.timerInterrupt := rfl
      rw [hcount]
      calc andThen (runAgents as s.timerInterrupt) (fun t => t.withClock e)
          = andThen (runThread (as.count .thread) s.timerInterrupt) (fun t => t.withClock e) := ih _
        _ = andThen (runThread (as.count .thread) s) (fun t => t.withClock e) := by
          rw [hclock, runThread_withClock, andThen_andThen]
          rfl
    | thread =>
      rw [List.count_cons_self, runAgents_cons, runThread_succ, andThen_bindNext, andThen_bindNext]
      simp only [ih]
      rfl

/-- Settles O10: `runAgents_withClock`, the clocks of the two end states being made the same. -/
theorem interruptsDoNotChangeTheBlock : Obligations.InterruptsDoNotChangeTheBlock := by
  unfold Obligations.InterruptsDoNotChangeTheBlock
  refine ⟨fun as s t h => ?_, fun as s u h => ?_, fun a s => rfl⟩
  · have hrun := runAgents_withClock as s s
    rw [h] at hrun
    obtain ⟨u, hu, heq⟩ := andThen_eq_next hrun.symm
    exact ⟨u, hu, sameBlock_of_withClock_eq heq.symm⟩
  · have hrun := runAgents_withClock as s s
    rw [h] at hrun
    obtain ⟨t, ht, heq⟩ := andThen_eq_next hrun
    exact ⟨t, ht, sameBlock_of_withClock_eq heq⟩

end Sys2Proof.Machine

/-! The framing requests: the acceptance of START and STOP, their lists to completion, the conditions they make on the wire,
and why no two WAITs ever stand side by side. -/

namespace Sys2Proof.Machine

/-! ### Acceptance (R101, R103) -/

/-- Settles O13: START is the request of its operation. -/
theorem startIsAccepted : Obligations.StartIsAccepted := by
  unfold Obligations.StartIsAccepted
  exact fun s hq => (exec_requestInstr_idle s .start 0#8 hq).trans (congrArg _ (State.accepted_start s 0#8))

/-- Settles O14: STOP is the request of its operation. -/
theorem stopIsAccepted : Obligations.StopIsAccepted := by
  unfold Obligations.StopIsAccepted
  exact fun s hq => (exec_requestInstr_idle s .stop 0#8 hq).trans (congrArg _ (State.accepted_stop s 0#8))

/-! ### A framing request to its completion (R86) -/

/-- The state once the actions of a framing request with these events are done, SEQ then being q: the directions and the
trace follow the events, the receiver is met released, and each action draws (R28, R86). -/
def State.ran (s : State) (es : List Event) (q : Sequencer) : State :=
  { s with
    seq := q
    dirs := s.dirs.replay es
    trace := s.trace ++ es
    rxDio := .released
    draws := s.draws + es.length }

@[simp] theorem State.ran_seq (s : State) (es : List Event) (q : Sequencer) : (s.ran es q).seq = q := rfl

@[simp] theorem State.ran_actions (s : State) (es : List Event) (q : Sequencer) (op : Op) :
    (s.ran es q).actions op = s.actions op := rfl

theorem State.ran_ran (s : State) (es fs : List Event) (q r : Sequencer) :
    (s.ran es q).ran fs r = s.ran (es ++ fs) r := by
  simp [State.ran, replay_append, Nat.add_assoc]

section framing
variable {s : State} {op : Op} {k : Nat} {a : LineAction}

/-- Only a read changes the list in progress (R86). -/
theorem actions_perform_of_ne_rd (ha : a ≠ .rd) : (s.perform op k a).actions op = s.actions op := by
  simp only [State.actions, State.dataByte, State.perform_params, State.perform_data, State.perform_asmp, if_neg ha]

theorem receiverDrive_framing (hop : op ≠ .write) (asmp : Option Level) (v : Level) (free : Dir) :
    receiverDrive op k asmp v free = .released := by
  cases op with
  | start | stop => rfl
  | write => exact absurd rfl hop

/-- One action of a framing request. -/
theorem threadStep_framing (hop : op ≠ .write) (hq : s.seq = .run op k) (hk : (s.actions op)[k]? = some a) :
    threadStep s =
      .next (s.ran [a.event .high] (if k + 1 = (s.actions op).length then .idle else .run op (k + 1))) := by
  have ha : a ≠ .rd := fun h => hop ((action_eq_rd_iff s op k a hk).mp h).1
  rw [threadStep_master hq hk fun h => absurd h ha, State.advanceSeq_eq, actions_perform_of_ne_rd ha,
    if_neg fun (h : _ ∧ _) => hop h.2, event_congr ha .high s.answer]
  simp [State.ran, State.perform, State.meetReceiver, State.setRx, State.takeDraw, receiverDrive_framing hop, ha,
    Dirs.replay]

/-- What is left of a framing request's list from index k on, to its completion. -/
theorem runThread_framing (hop : op ≠ .write) (n : Nat) (hq : s.seq = .run op k)
    (hlen : (s.actions op).length = k + (n + 1)) :
    runThread (n + 1) s = .next (s.ran (((s.actions op).drop k).map (LineAction.event .high)) .idle) := by
  induction n generalizing s k with
  | zero =>
    have hlt : k < (s.actions op).length := by omega
    rw [runThread_succ_of_next _ (threadStep_framing hop hq (List.getElem?_eq_getElem hlt)), if_pos hlen.symm,
      List.drop_eq_getElem_cons hlt, List.drop_eq_nil_of_le (Nat.le_of_eq hlen)]
    rfl
  | succ n ih =>
    have hlt : k < (s.actions op).length := by omega
    rw [runThread_succ_of_next _ (threadStep_framing hop hq (List.getElem?_eq_getElem hlt)), if_neg (by omega),
      ih (State.ran_seq ..) (by rw [State.ran_actions]; omega), State.ran_ran, State.ran_actions,
      List.drop_eq_getElem_cons hlt]
    rfl

/-- A framing request from its word at pc to its completion: its acceptance, then its whole list (R84, R86). -/
theorem runThread_framing_request (hop : op ≠ .write) {w : ReqWord} (d : Byte) (hq : s.seq = .idle)
    (hw : s.program[s.pc]? = some w) (hd : decode (.req w) = .ok (requestInstr d op)) :
    runThread (1 + (s.actions op).length) s =
      .next ((s.accepted op d).ran ((s.actions op).map (LineAction.event .high)) .idle) := by
  have hstep : threadStep s = .next (s.accepted op d) :=
    (threadStep_word hq hw).trans ((accept_of_decode s hd).trans (exec_requestInstr_idle s op d hq))
  have hlist : (s.accepted op d).actions op = s.actions op := by
    simp [State.actions, State.dataByte, State.accepted, hop]
  obtain ⟨n, hn⟩ := Nat.exists_eq_add_one.mpr (actionList_length_pos s.params op s.dataByte s.asmp)
  have hlen : (s.actions op).length = n + 1 := hn
  rw [Nat.add_comm, runThread_succ_of_next _ hstep, hlen, runThread_framing hop n rfl (by rw [hlist]; omega), hlist,
    List.drop_zero]

end framing

/-- START's actions are recorded as the events of the spec's table (R100, R111). -/
theorem startActions_events (p : Params) (v : Level) :
    (startActions p).map (LineAction.event v) = Spec.startTrace p.startReleasesClk := by
  rw [startActions, Spec.startTrace]
  split <;> rfl

theorem replay_startTrace (d : Dirs) (b : Bool) :
    d.replay (Spec.startTrace b) = ⟨if b then .released else d.clk, .driven⟩ := by
  cases b <;> rfl

/-- Settles O23: `runThread_framing_request` at START, its events being those of the spec's table. -/
theorem startRunsItsList : Obligations.StartRunsItsList := by
  unfold Obligations.StartRunsItsList
  intro s hq hw
  have hevents : (s.actions .start).map (LineAction.event .high) = Spec.startTrace s.params.startReleasesClk :=
    startActions_events ..
  have hrun := runThread_framing_request (op := .start) nofun 0#8 hq hw rfl
  rw [← List.length_map (LineAction.event .high), hevents] at hrun
  refine ⟨_, hrun, ?_, ?_, ?_⟩
  · rw [State.ran, State.accepted_start, replay_startTrace, hq]
  · exact Wire.level_eq_low_of_driven (congrArg Dirs.dio (replay_startTrace ..))
  · intro hrel
    refine (Wire.level_eq_high_iff _ _).mpr ⟨(congrArg Dirs.clk (replay_startTrace ..)).trans (if_pos hrel), nofun⟩

/-- Settles O24: `runThread_framing_request` at STOP. -/
theorem stopRunsItsList : Obligations.StopRunsItsList := by
  unfold Obligations.StopRunsItsList
  intro s hq hw
  refine ⟨_, runThread_framing_request (op := .stop) nofun 0#8 hq hw rfl, ?_, ?_, ?_⟩
  · rw [State.ran, State.accepted_stop, hq]
    rfl
  · exact (Wire.level_eq_high_iff _ _).mpr ⟨rfl, nofun⟩
  · exact (Wire.level_eq_high_iff _ _).mpr ⟨rfl, fun _ => rfl⟩

/-! ### The conditions on the wire (R104, R105) -/

/-- While the master drives CLK no action makes a condition. -/
theorem Wire.condition_eq_none_of_clk_driven {w : Wire} (h : w.dirs.clk = .driven) (e : Event) :
    w.condition e = none := by
  have hlow : w.level .clk = .low := Wire.level_eq_low_of_driven h
  rw [Wire.condition, hlow, if_neg fun ⟨hhigh, _⟩ => nomatch hhigh]

/-- A trace that never releases CLK makes no condition while the master drives it, whatever the receiver does. -/
theorem conditions_eq_nil_of_clk_driven {ms : List Met} (hms : ∀ m ∈ ms, m.event ≠ .rel .clk) {d : Dirs}
    (hd : d.get .clk = .driven) (j : Nat) : d.conditions j ms = [] := by
  induction ms generalizing d j with
  | nil => rfl
  | cons m ms ih =>
    obtain ⟨hm, hrest⟩ := List.forall_mem_cons.mp hms
    have hafter : (d.after m.event).get .clk = .driven := by
      rw [Dirs.get_after, if_neg hm, hd, ite_self]
    rw [Dirs.conditions, Wire.condition_eq_none_of_clk_driven (w := m.wire d) hd]
    exact ih hrest hafter (j + 1)

/-- Settles O29: by replaying the trace, and, its CLK being driven throughout, the START that does not release it makes no
condition. -/
theorem conditionsOfAStart : Obligations.ConditionsOfAStart := by
  unfold Obligations.ConditionsOfAStart
  refine ⟨rfl, rfl, rfl, rfl, rfl, rfl, rfl, rfl, rfl, fun x ms hms => ?_⟩
  refine conditions_eq_nil_of_clk_driven (fun m hm => ?_) rfl 0
  have hmem : m.event ∈ Spec.startTrace false := hms ▸ List.mem_map_of_mem hm
  have hnone : ∀ e ∈ Spec.startTrace false, e ≠ .rel .clk := by decide
  exact hnone _ hmem

/-- Settles O30: by replaying the trace from each of the directions. -/
theorem conditionsOfAStop : Obligations.ConditionsOfAStop := by
  unfold Obligations.ConditionsOfAStop
  refine ⟨rfl, fun x => ?_, rfl, rfl⟩
  cases x with
  | driven | released => exact ⟨rfl, rfl⟩

/-! ### WAITs stay apart (R100, R102, R112) -/

theorem event_eq_wait_iff (a : LineAction) (v : Level) : a.event v = .wait ↔ a = .wait := by
  cases a <;> simp [LineAction.event]

@[simp] theorem waitsApart_singleton (e : Event) : waitsApart [e] :=
  fun _ _ => nofun

@[simp] theorem waitsApart_cons_cons (e f : Event) (tr : List Event) :
    waitsApart (e :: f :: tr) ↔ (e = .wait → f ≠ .wait) ∧ waitsApart (f :: tr) := by
  constructor
  · intro h
    exact ⟨fun he hf => h 0 (congrArg some he) (congrArg some hf), fun j => h (j + 1)⟩
  · rintro ⟨hfirst, hrest⟩ j he hf
    cases j with
    | zero => exact hfirst (Option.some.inj he) (Option.some.inj hf)
    | succ j => exact hrest j he hf

/-- An event can be appended unless it and the last one are both WAITs. -/
theorem waitsApart_concat {tr : List Event} {e : Event} (htr : waitsApart tr)
    (he : e = .wait → tr.getLast? ≠ some .wait) : waitsApart (tr ++ [e]) := by
  intro j hj hnext
  have hlt : j + 1 < (tr ++ [e]).length := (List.getElem?_eq_some_iff.mp hnext).1
  rw [List.length_append, List.length_singleton] at hlt
  rw [List.getElem?_append_left (by omega)] at hj
  by_cases hlast : j + 1 < tr.length
  · rw [List.getElem?_append_left hlast] at hnext
    exact htr j hj hnext
  · have hend : j + 1 = tr.length := by omega
    rw [hend, List.getElem?_concat_length] at hnext
    refine he (Option.some.inj hnext) ?_
    rw [List.getLast?_eq_getElem?, ← hend, Nat.add_sub_cancel, hj]

/-- A bit slot can follow a WAIT, and ends in one (R112). -/
theorem waitsApart_slotTrace_append (d : Byte) (i : Nat) {tr : List Event} (h : waitsApart (.wait :: tr)) :
    waitsApart (.wait :: (Spec.slotTrace d i ++ tr)) := by
  have hbit : (if d.getLsbD i then Event.rel .dio else .drv .dio) ≠ .wait := by split <;> nofun
  simp [Spec.slotTrace, hbit, h]

theorem waitsApart_ackSlot (acked trailing : Bool) (v : Level) :
    waitsApart (.wait :: (ackSlot acked trailing).map (LineAction.event v)) := by
  cases acked <;> cases trailing <;> simp [ackSlot, LineAction.event]

/-- Every list keeps its WAITs apart, and can follow a WAIT (R100, R102, R112). -/
theorem waitsApart_actionList (p : Params) (op : Op) (d : Byte) (asmp : Option Level) (v : Level) :
    waitsApart (.wait :: (actionList p op d asmp).map (LineAction.event v)) := by
  cases op with
  | start =>
    rw [actionList, startActions_events]
    cases p.startReleasesClk <;> simp [Spec.startTrace]
  | stop =>
    simp [actionList, stopActions, LineAction.event]
  | write =>
    simp only [actionList, writeActions, List.map_append, bitSlot_events, List.append_assoc]
    iterate 8 apply waitsApart_slotTrace_append
    exact waitsApart_ackSlot _ _ v

/-- When the action at hand is a WAIT the trace does not end in one: it ends with the list's action before it, and that is
another action. -/
theorem getLast?_trace_ne_wait {s : State} (htrace : s.traceOk) {op : Op} {k : Nat} (hq : s.seq = .run op k)
    (hk : (s.actions op)[k]? = some .wait) : s.trace.getLast? ≠ some .wait := by
  have hlist : waitsApart (.wait :: (s.actions op).map (LineAction.event (s.asmp.getD .high))) :=
    waitsApart_actionList _ _ _ _ _
  have hhere : (Event.wait :: (s.actions op).map (LineAction.event (s.asmp.getD .high)))[k + 1]? = some .wait := by
    rw [List.getElem?_cons_succ, List.getElem?_map, hk]
    rfl
  have hbefore := fun h => hlist k h hhere
  cases k with
  | zero => exact absurd rfl hbefore
  | succ j =>
    obtain ⟨hlt, -⟩ := List.getElem?_eq_some_iff.mp hk
    obtain ⟨pre, hpre⟩ := (State.traceOk_run hq).mp htrace
    have hb := List.getElem?_eq_getElem (show j < (s.actions op).length by omega)
    rw [List.getElem?_cons_succ, List.getElem?_map, hb] at hbefore
    rw [← hpre, List.take_add_one, hb, List.map_append, ← List.append_assoc,
      Option.toList_some, List.map_singleton, List.getLast?_concat]
    exact hbefore

/-- Settles O49: only the master's action appends an event, and the trace before it ends with its list's events so far. -/
theorem waitsStayApart : Obligations.WaitsStayApart := by
  unfold Obligations.WaitsStayApart
  refine ⟨nofun, fun s t ⟨_, _, htrace, _, _⟩ hs h => ?_⟩
  cases transition_of_step s t h with
  | timer | accept | refuse => exact hs
  | endRun => rw [State.endRun_eq]; exact hs
  | master op k a _ hq hk =>
    rw [State.advanceSeq_trace, State.perform_trace]
    refine waitsApart_concat hs fun he => ?_
    rw [event_eq_wait_iff] at he
    subst he
    exact getLast?_trace_ne_wait htrace hq hk

end Sys2Proof.Machine

/-! The byte transfer: the acceptance of WRITE, its list to completion, what the receiver samples, the conditions a WRITE
makes on the wire, and the counts of its actions, WAITs and CLK edges. -/

namespace Sys2Proof.Machine

/-! ### Acceptance (R113) -/

/-- Settles O15: WRITE is the request of its operation. -/
theorem writeIsAccepted : Obligations.WriteIsAccepted := by
  unfold Obligations.WriteIsAccepted
  exact fun s d hq => (exec_requestInstr_idle s .write d hq).trans (congrArg _ (State.accepted_write s d))

/-! ### The events of a WRITE (R112, R114, R117) -/

/-- The events of the acknowledgment slot of a WRITE whose sample is v (R117, R123). -/
def ackTrace (v : Level) (trailing : Bool) : List Event :=
  (ackSlot (acknowledged (some v)) trailing).map (LineAction.event v)

/-- A WRITE's events are those of its eight bit slots and of its acknowledgment slot (R112). -/
theorem writeTrace_eq (d : Byte) (v : Level) (b : Bool) :
    Spec.writeTrace d v b = (List.range 8).flatMap (Spec.slotTrace d) ++ ackTrace v b := by
  simp only [Spec.writeTrace, List.append_assoc, List.append_cancel_left_eq]
  cases v <;> cases b <;> rfl

/-- Slot i of a WRITE's list is the bit slot of bit i (R112, R114). -/
theorem writeActions_slot (p : Params) (d : Byte) (asmp : Option Level) {i : Nat} (hi : i < 8) :
    ((writeActions p d asmp).drop (6 * i)).take 6 = bitSlot d i := by
  match i, hi with
  | 0, _ | 1, _ | 2, _ | 3, _ | 4, _ | 5, _ | 6, _ | 7, _ => rfl

/-- The directions a WRITE leaves, whatever it finds (R119, R120, R122). -/
theorem replay_writeTrace (x : Dirs) (d : Byte) (v : Level) (b : Bool) :
    x.replay (Spec.writeTrace d v b) = ⟨.driven, if v = .low then .driven else .released⟩ := by
  rw [writeTrace_eq, replay_append]
  cases v <;> cases b <;> rfl

/-! ### What the receiver samples (R115) -/

/-- Up to the rise of CLK in slot i, the actions of a WRITE end with the slot's first four; the rise is the fifth (R114). -/
theorem writeActions_before_rise (p : Params) (d : Byte) (asmp : Option Level) {i : Nat} (hi : i < 8) :
    (writeActions p d asmp).take (6 * i + 4) = (writeActions p d asmp).take (6 * i) ++ (bitSlot d i).take 4 ∧
      (writeActions p d asmp)[6 * i + 4]? = some (.rel .clk) := by
  have hslot := writeActions_slot p d asmp hi
  constructor
  · rw [List.take_add, ← hslot, List.take_take]
    rfl
  · rw [← List.getElem?_drop, ← List.getElem?_take_of_lt (show 4 < 6 by decide), hslot]
    rfl

/-- With CLK's rise of slot i at hand the master drives CLK, and drives DIO exactly if bit i is 0 (R114). -/
theorem State.Inv.dirs_before_rise {s : State} (hs : s.Inv) {i : Nat} (hi : i < 8)
    (hq : s.seq = .run .write (6 * i + 4)) :
    s.dirs = ⟨.driven, if dataBit s.dataByte i then .released else .driven⟩ := by
  obtain ⟨-, -, htrace, hdirs, -⟩ := hs
  obtain ⟨hbefore, -⟩ := writeActions_before_rise s.params s.dataByte s.asmp hi
  obtain ⟨pre, hpre⟩ := (State.traceOk_run hq).mp htrace
  rw [State.actions, actionList, hbefore, List.map_append, ← List.append_assoc] at hpre
  rw [hdirs, ← hpre, replay_append, bitSlot, bitAction]
  cases dataBit s.dataByte i <;> rfl

/-- Settles O26: the directions before the rise are those of the slot's first four actions, and outside the ACK window the
receiver does not drive DIO. -/
theorem theReceiverSamplesTheDataBit : Obligations.TheReceiverSamplesTheDataBit := by
  unfold Obligations.TheReceiverSamplesTheDataBit
  intro s d i hs hi hq hdata
  have hdirs := hs.dirs_before_rise hi hq
  have hbyte : s.dataByte = d := by rw [State.dataByte, hdata, Option.getD_some]
  obtain ⟨-, hrise⟩ := writeActions_before_rise s.params s.dataByte s.asmp hi
  have hstep := threadStep_master (a := .rel .clk) hq hrise nofun
  obtain ⟨hwindow, -⟩ := theReceiverKeepsToItsWindow s _ _ _ hq hstep
  have hrx := hwindow (by simp [inAckWindow]; omega)
  refine ⟨Wire.level_eq_low_of_driven (congrArg Dirs.clk hdirs), _, hstep, ?_, ?_⟩
  · refine (Wire.level_eq_high_iff _ _).mpr ⟨?_, nofun⟩
    rw [State.wire, State.advanceSeq_dirs, State.perform_dirs]
    rfl
  · obtain ⟨-, hdio⟩ := levelsAreTheWiredAnd ((s.perform .write (6 * i + 4) (.rel .clk)).advanceSeq .write (6 * i + 4))
    rw [hdio, hrx, State.advanceSeq_dirs, State.perform_dirs, hdirs, hbyte]
    unfold dataBit
    cases d.getLsbD i <;> rfl

/-! ### A WRITE to its completion (R86, R119, R120) -/

theorem runThread_add_of_next {m : Nat} {s t : State} (h : runThread m s = .next t) (n : Nat) :
    runThread (m + n) s = runThread n t := by
  induction m generalizing s with
  | zero => cases h; rw [Nat.zero_add]
  | succ m ih =>
    rw [runThread_succ] at h
    rw [Nat.succ_add, runThread_succ]
    cases hs : threadStep s with
    | next u => rw [hs] at h; exact ih h
    | fault | refused => rw [hs] at h; cases h

/-- The receiver's drive of DIO that the master's action k of op meets (R28, R118). -/
def State.drive (s : State) (op : Op) (k : Nat) : Dir :=
  receiverDrive op k s.asmp s.answer (Config.freeDrive s.draws)

/-- The state once the read of a WRITE has sampled v: that is what the receiver shows, and an imposed answer is used up
(R91). -/
def State.sampled (s : State) (v : Level) : State :=
  { s.ran [.rd v] (.run .write 54) with
    asmp := some v
    rxDio := driveOf v
    answers := s.answers.tail }

theorem State.actions_write_length (s : State) : (s.actions .write).length =
    56 + (if acknowledged s.asmp then 1 else 0) + (if s.params.wbTrailingWait then 1 else 0) :=
  writeActions_length ..

theorem State.ran_setRx_actions (s : State) (es : List Event) (q : Sequencer) (x : Dir) (op : Op) :
    ((s.ran es q).setRx x).actions op = s.actions op := rfl

theorem State.ran_setRx_ran_setRx (s : State) (es fs : List Event) (q r : Sequencer) (x y : Dir) :
    (((s.ran es q).setRx x).ran fs r).setRx y = (s.ran (es ++ fs) r).setRx y := by
  simp [State.ran, State.setRx, replay_append, Nat.add_assoc]

section write
variable {s : State} {op : Op} {k : Nat} {a : LineAction}

/-- An action that is no read does what it does in a framing request, but for the receiver's drive (R28, R86). -/
theorem perform_of_ne_rd (ha : a ≠ .rd) (v : Level) :
    s.perform op k a = (s.ran [a.event v] s.seq).setRx (s.drive op k) := by
  simp [State.perform, State.meetReceiver, State.takeDraw, State.ran, State.setRx, State.drive, Dirs.replay, ha,
    event_congr ha s.answer v]

/-- The thread's step at an action that is neither a read nor the last of its list (R86). -/
theorem threadStep_of_ne_rd (hq : s.seq = .run op k) (hk : (s.actions op)[k]? = some a) (ha : a ≠ .rd)
    (hmore : k + 1 ≠ (s.actions op).length) (v : Level) :
    threadStep s = .next ((s.ran [a.event v] (.run op (k + 1))).setRx (s.drive op k)) := by
  rw [threadStep_master hq hk fun h => absurd h ha, State.advanceSeq, actions_perform_of_ne_rd ha, if_neg hmore,
    perform_of_ne_rd ha v]
  rfl

/-- The thread's step at the last action of a WRITE (R119). -/
theorem threadStep_write_last (hq : s.seq = .run .write k) (hk : (s.actions .write)[k]? = some a) (ha : a ≠ .rd)
    (hend : k + 1 = (s.actions .write).length) (v : Level) :
    threadStep s = .next (((s.ran [a.event v] .idle).setRx (s.drive .write k)).recordAck) := by
  rw [threadStep_master hq hk fun h => absurd h ha, State.advanceSeq, actions_perform_of_ne_rd ha, if_pos hend,
    perform_of_ne_rd ha v]
  rfl

/-- The thread's step at the read of a WRITE (R91). -/
theorem threadStep_write_read {v : Level} (hq : s.seq = .run .write 53) (hdio : s.dirs.dio = .released)
    (hv : s.answer = v) : threadStep s = .next (s.sampled v) := by
  rw [← hv, threadStep_master hq (a := .rd) rfl fun _ => hdio, State.advanceSeq, if_neg]
  · rfl
  · rw [State.actions_write_length]
    omega

/-- A stretch of a WRITE that does not read and stops before the last action. -/
theorem runThread_write_stretch (n : Nat) (v : Level) (hq : s.seq = .run .write k)
    (hlen : k + n < (s.actions .write).length) (hread : k + n ≤ 53 ∨ 53 < k) :
    ∃ rx, runThread n s = .next
      ((s.ran ((((s.actions .write).drop k).take n).map (LineAction.event v)) (.run .write (k + n))).setRx rx) := by
  induction n generalizing s k with
  | zero =>
    refine ⟨s.rxDio, ?_⟩
    rw [Nat.add_zero, ← hq, List.take_zero]
    simp [State.ran, State.setRx, Dirs.replay, runThread, runAgents]
  | succ n ih =>
    have hlt : k < (s.actions .write).length := by omega
    have hk := List.getElem?_eq_getElem hlt
    have ha : (s.actions .write)[k] ≠ .rd := fun h => by
      have := ((action_eq_rd_iff s .write k _ hk).mp h).2
      omega
    obtain ⟨rx, hrx⟩ := ih (k := k + 1)
      (s := (s.ran [(s.actions .write)[k].event v] (.run .write (k + 1))).setRx (s.drive .write k)) rfl
      (by rw [State.ran_setRx_actions]; omega) (by omega)
    rw [State.ran_setRx_actions, State.ran_setRx_ran_setRx] at hrx
    refine ⟨rx, ?_⟩
    rw [runThread_succ_of_next n (threadStep_of_ne_rd hq hk ha (by omega) v), hrx, List.drop_eq_getElem_cons hlt,
      List.take_succ_cons, Nat.add_right_comm]
    rfl

/-- At the last action of a WRITE the receiver does not drive DIO if it sampled 1 (R120). -/
theorem drive_write_last (hasmp : s.asmp = some .high) (hend : k + 1 = (s.actions .write).length) :
    s.drive .write k = .released := by
  have hk : 55 ≤ k := by
    rw [State.actions_write_length] at hend
    omega
  have hfinal : finalDrvClk s.asmp = 55 := by rw [hasmp]; rfl
  have hack : acknowledged s.asmp = false := by rw [hasmp]; rfl
  refine receiverDrive_of_fixed _ ?_
  by_cases h55 : k = 55
  · simp [receiverFixed, hfinal, hack, h55]
  · have : 55 < k := by omega
    simp [receiverFixed, hfinal, this, show ¬k ≤ 48 by omega, show ¬k < 53 by omega, show k ≠ 53 by omega]

/-- The first 53 actions of a WRITE leave DIO released: the last of them on DIO is the REL DIO of the acknowledgment slot
(R91, R117). -/
theorem dio_released_before_read (s : State) (v : Level) :
    (s.dirs.replay (((s.actions .write).take 53).map (LineAction.event v))).dio = .released := by
  have hlist : (s.actions .write).take 53 =
      (s.actions .write).take 48 ++ [.drv .clk, .rel .dio, .wait, .rel .clk, .wait] := rfl
  rw [hlist, List.map_append, replay_append]
  rfl

/-- A WRITE from its first action to its read, v being the answer drawn there. -/
theorem runThread_write_to_read {v : Level} (hq : s.seq = .run .write 0)
    (hv : ({ s with draws := s.draws + 53 } : State).answer = v) :
    runThread 54 s = .next
      ((s.ran (((s.actions .write).take 53).map (LineAction.event v)) (.run .write 53)).sampled v) := by
  have hlen : 0 + 53 < (s.actions .write).length := by
    rw [State.actions_write_length]
    omega
  obtain ⟨x, hx⟩ := runThread_write_stretch 53 v hq hlen (.inl (by decide))
  have hread := threadStep_write_read
    (s := (s.ran (((s.actions .write).take 53).map (LineAction.event v)) (.run .write 53)).setRx x) rfl
    (dio_released_before_read s v) hv
  exact (runThread_add_of_next hx 1).trans (runThread_succ_of_next 0 hread)

/-- What is left of a WRITE's list past its read, to its completion. -/
theorem runThread_write_rest {n : Nat} (v : Level) (hq : s.seq = .run .write 54)
    (hlen : (s.actions .write).length = 55 + n) :
    ∃ rx, runThread (n + 1) s = .next
        (((s.ran (((s.actions .write).drop 54).map (LineAction.event v)) .idle).setRx rx).recordAck) ∧
      (s.asmp = some .high → rx = .released) := by
  obtain ⟨x, hx⟩ := runThread_write_stretch n v hq (by omega) (.inr (by decide))
  have hk : (s.actions .write)[54 + n]? = some _ := List.getElem?_eq_getElem (by omega)
  have ha : (s.actions .write)[54 + n] ≠ .rd := fun h => by
    have := ((action_eq_rd_iff s .write _ _ hk).mp h).2
    omega
  have hsplit : (s.actions .write).drop 54 = ((s.actions .write).drop 54).take n ++ [(s.actions .write)[54 + n]] := by
    have hall := List.take_of_length_le (l := (s.actions .write).drop 54) (i := n + 1) (by rw [List.length_drop]; omega)
    rw [List.take_add_one, List.getElem?_drop, hk] at hall
    exact hall.symm
  generalize hu : (s.ran _ (.run .write (54 + n))).setRx x = u at hx
  have hactions : u.actions .write = s.actions .write := by rw [← hu, State.ran_setRx_actions]
  have hend : 54 + n + 1 = (u.actions .write).length := by rw [hactions]; omega
  have hlast := threadStep_write_last (by rw [← hu]; rfl) (by rw [hactions]; exact hk) ha hend v
  refine ⟨u.drive .write (54 + n), ?_, fun h => drive_write_last (by rw [← hu]; exact h) hend⟩
  rw [runThread_add_of_next hx, runThread_succ_of_next 0 hlast, hsplit, List.map_append, ← State.ran_setRx_ran_setRx,
    hu]
  rfl

end write

/-- The state once a WRITE of d with sample v has completed, the receiver last met with drive rx (R112, R113, R119). -/
def State.wrote (s : State) (d : Byte) (v : Level) (rx : Dir) : State :=
  { s with
    pc := s.pc + 1
    seq := .idle
    data := some d
    asmp := some v
    lastAck := some (v == .low)
    faults := Spec.withFraming (!s.frameOpen) s.faults
    dirs := s.dirs.replay (Spec.writeTrace d v s.params.wbTrailingWait)
    trace := s.trace ++ Spec.writeTrace d v s.params.wbTrailingWait
    rxDio := rx
    answers := s.answers.tail
    draws := s.draws + (Spec.writeTrace d v s.params.wbTrailingWait).length }

/-- The events of a WRITE before its read, the read, and the events after it (R112). -/
theorem writeTrace_split (p : Params) (d : Byte) (v : Level) :
    Spec.writeTrace d v p.wbTrailingWait =
      ((writeActions p d none).take 53).map (LineAction.event v) ++
        ([.rd v] ++ ((writeActions p d (some v)).drop 54).map (LineAction.event v)) := by
  rw [← writeActions_events]
  rfl

/-- The pieces of a WRITE put together: accepted, run to its read, sampled, and run to its end. -/
theorem State.wrote_eq (s : State) (d : Byte) (v : Level) (rx : Dir) :
    ((((((s.accepted .write d).ran (((writeActions s.params d none).take 53).map (LineAction.event v))
      (.run .write 53)).sampled v).ran (((writeActions s.params d (some v)).drop 54).map (LineAction.event v))
      .idle).setRx rx).recordAck) = s.wrote d v rx := by
  simp only [State.wrote, State.accepted_write, writeTrace_split, replay_append, List.length_append, State.recordAck,
    State.setLastAck, State.setRx, State.ran, State.sampled, acknowledged_some, List.append_assoc, Nat.add_assoc]

/-- A WRITE from its word at pc to its completion: its acceptance, its list to the read, and the rest. -/
theorem runThread_write_request {s : State} {d : Byte} {v : Level} (hq : s.seq = .idle)
    (hw : s.program[s.pc]? = some (0x300#10 ||| d.setWidth 10))
    (hv : ({ s with draws := s.draws + 53 } : State).answer = v) :
    ∃ rx, runThread (1 + (Spec.writeTrace d v s.params.wbTrailingWait).length) s = .next (s.wrote d v rx) ∧
      (v = .high → rx = .released) := by
  have haccept : threadStep s = .next (s.accepted .write d) := (threadStep_word hq hw).trans
    ((accept_of_decode s (decodeReq_write d)).trans (exec_requestInstr_idle s .write d hq))
  have hread := runThread_write_to_read (s := s.accepted .write d) rfl hv
  generalize ht : State.sampled _ v = t at hread
  have hactions : t.actions .write = writeActions s.params d (some v) := by rw [← ht]; rfl
  obtain ⟨n, hn⟩ : ∃ n, (writeActions s.params d (some v)).length = 55 + n :=
    Nat.exists_eq_add_of_le (by rw [writeActions_length]; omega)
  obtain ⟨rx, hrest, hrx⟩ := runThread_write_rest v (by rw [← ht]; rfl) (hactions ▸ hn)
  refine ⟨rx, ?_, fun h => hrx (by rw [← ht, h]; rfl)⟩
  have hcount : 1 + (Spec.writeTrace d v s.params.wbTrailingWait).length = 54 + (n + 1) + 1 := by
    rw [← writeActions_events, List.length_map, hn]
    omega
  rw [hcount, runThread_succ_of_next _ haccept, runThread_add_of_next hread, hrest, hactions, ← ht, ← State.wrote_eq]
  rfl

/-- Settles O25: the fields of the state that `runThread_write_request` gives. -/
theorem writeRunsItsList : Obligations.WriteRunsItsList := by
  unfold Obligations.WriteRunsItsList
  intro s d v hq hw hv
  obtain ⟨rx, hrun, hrx⟩ := runThread_write_request hq hw hv.symm
  have hdirs : (s.wrote d v rx).dirs = ⟨.driven, if v = .low then .driven else .released⟩ := by
    simp only [State.wrote, replay_writeTrace]
  refine ⟨_, hrun, rfl, rfl, rfl, rfl, rfl, rfl, hdirs, Wire.level_eq_low_of_driven (congrArg Dirs.clk hdirs), ?_, rfl,
    rfl, ?_⟩
  · cases v with
    | low => exact Wire.level_eq_low_of_driven (congrArg Dirs.dio hdirs)
    | high => exact (State.level_dio_eq_high_iff (congrArg Dirs.dio hdirs)).mpr (hrx rfl)
  · rw [State.wrote, hq]

/-! ### The conditions on the wire (R121) -/

theorem conditions_append (d : Dirs) (j : Nat) (ms ns : List Met) : d.conditions j (ms ++ ns) =
    d.conditions j ms ++ (d.replay (ms.map Met.event)).conditions (j + ms.length) ns := by
  induction ms generalizing d j with
  | nil => rfl
  | cons m ms ih =>
    simp only [List.cons_append, Dirs.conditions, ih, List.map_cons, List.length_cons, Nat.add_right_comm j 1]
    cases (m.wire d).condition m.event <;> rfl

/-- An action that makes no edge of DIO makes no condition. -/
theorem Wire.condition_eq_none_of_edge {w : Wire} {e : Event} (h : w.edge e .dio = none) : w.condition e = none := by
  rw [Wire.condition, h]
  exact ite_self none

/-- DIO has an edge only at its own DRV, if it was high, and at its own REL (R94). -/
theorem Wire.edge_dio_eq_none {w : Wire} {e : Event} (hdrv : e = .drv .dio → w.level .dio = .low) (hrel : e ≠ .rel .dio) :
    w.edge e .dio = none := by
  obtain ⟨hfall, hrise⟩ := edgesComeOnlyFromTheirOwnLine w e .dio
  cases he : w.edge e .dio with
  | none => rfl
  | some c =>
    cases c with
    | fall =>
      obtain ⟨hdio, hhigh⟩ := hfall.mp he
      exact absurd ((hdrv hdio).symm.trans hhigh) nofun
    | rise => exact absurd (hrise.mp he).1 hrel

/-- Every action on DIO among these events finds CLK driven, CLK's direction before them being that of d. -/
def dioKeepsToLowClk (d : Dirs) : List Event → Prop
  | [] => True
  | e :: es => (e = .drv .dio ∨ e = .rel .dio → d.clk = .driven) ∧ dioKeepsToLowClk (d.after e) es

theorem dioKeepsToLowClk_append (d : Dirs) (es fs : List Event) :
    dioKeepsToLowClk d (es ++ fs) ↔ dioKeepsToLowClk d es ∧ dioKeepsToLowClk (d.replay es) fs := by
  induction es generalizing d with
  | nil => exact (iff_of_eq (true_and _)).symm
  | cons e es ih => rw [List.cons_append, dioKeepsToLowClk, dioKeepsToLowClk, ih, and_assoc]; rfl

/-- Where DIO moves only while CLK is driven there is no condition, whatever the receiver does (R104, R105). -/
theorem conditions_eq_nil_of_dioKeepsToLowClk {d : Dirs} {ms : List Met} (h : dioKeepsToLowClk d (ms.map Met.event))
    (j : Nat) : d.conditions j ms = [] := by
  induction ms generalizing d j with
  | nil => rfl
  | cons m ms ih =>
    obtain ⟨hclk, hrest⟩ := h
    have hnone : (m.wire d).condition m.event = none := by
      by_cases hdio : m.event = .drv .dio ∨ m.event = .rel .dio
      · exact Wire.condition_eq_none_of_clk_driven (hclk hdio) _
      · obtain ⟨hdrv, hrel⟩ := not_or.mp hdio
        exact Wire.condition_eq_none_of_edge (Wire.edge_dio_eq_none (fun h => absurd h hdrv) hrel)
    rw [Dirs.conditions, hnone]
    exact ih hrest (j + 1)

theorem dioKeepsToLowClk_of_forall_ne {es : List Event} (h : ∀ e ∈ es, ¬(e = .drv .dio ∨ e = .rel .dio)) (d : Dirs) :
    dioKeepsToLowClk d es := by
  induction es generalizing d with
  | nil => trivial
  | cons e es ih =>
    obtain ⟨he, hes⟩ := List.forall_mem_cons.mp h
    exact ⟨fun hdio => absurd hdio he, ih hes _⟩

/-- In a bit slot CLK is driven before DIO is set and released after (R114). -/
theorem dioKeepsToLowClk_slotTrace (x : Dirs) (d : Byte) (i : Nat) : dioKeepsToLowClk x (Spec.slotTrace d i) := by
  unfold Spec.slotTrace
  split <;> simp [dioKeepsToLowClk, Dirs.after, Dirs.set]

theorem dioKeepsToLowClk_slots (x : Dirs) (d : Byte) (is : List Nat) :
    dioKeepsToLowClk x (is.flatMap (Spec.slotTrace d)) := by
  induction is generalizing x with
  | nil => trivial
  | cons i is ih =>
    rw [List.flatMap_cons, dioKeepsToLowClk_append]
    exact ⟨dioKeepsToLowClk_slotTrace x d i, ih _⟩

/-- The events of a WRITE up to its read: its bit slots and the first six of its acknowledgment slot (R112). -/
def traceToRead (d : Byte) (v : Level) : List Event :=
  (List.range 8).flatMap (Spec.slotTrace d) ++ (ackTrace v false).take 6

theorem writeTrace_eq_traceToRead (d : Byte) (v : Level) (b : Bool) :
    Spec.writeTrace d v b = traceToRead d v ++ (ackTrace v b).drop 6 := by
  rw [writeTrace_eq, traceToRead, List.append_assoc]
  cases b <;> rfl

theorem length_traceToRead (d : Byte) (v : Level) : (traceToRead d v).length = 54 := rfl

theorem dioKeepsToLowClk_traceToRead (x : Dirs) (d : Byte) (v : Level) : dioKeepsToLowClk x (traceToRead d v) := by
  rw [traceToRead, dioKeepsToLowClk_append]
  refine ⟨dioKeepsToLowClk_slots x d _, ?_⟩
  cases v <;> simp [ackTrace, ackSlot, LineAction.event, dioKeepsToLowClk, Dirs.after, Dirs.set]

/-- Settles O28: up to the read DIO moves only while CLK is driven; after it only the DRV DIO of an acknowledged WRITE
moves DIO's direction, and the receiver still holds DIO low then. -/
theorem aWriteMakesNoCondition : Obligations.AWriteMakesNoCondition := by
  unfold Obligations.AWriteMakesNoCondition
  intro x d v b j ms hms hallowed
  rw [writeTrace_eq_traceToRead] at hms
  obtain ⟨pre, post, rfl, hpre, hpost⟩ := List.map_eq_append_iff.mp hms
  have hlen : pre.length = 54 := by rw [← List.length_map Met.event, hpre, length_traceToRead]
  rw [conditions_append, conditions_eq_nil_of_dioKeepsToLowClk (hpre ▸ dioKeepsToLowClk_traceToRead x d v),
    List.nil_append]
  generalize x.replay _ = y
  generalize j + pre.length = n
  cases v with
  | high =>
    have hstill : ∀ e ∈ (ackTrace .high b).drop 6, ¬(e = .drv .dio ∨ e = .rel .dio) := by cases b <;> decide
    exact conditions_eq_nil_of_dioKeepsToLowClk (hpost ▸ dioKeepsToLowClk_of_forall_ne hstill y) n
  | low =>
    obtain ⟨m, rest, rfl, hm, hrest⟩ := List.map_eq_cons_iff.mp
      (show post.map Met.event = .drv .dio :: (ackTrace .low b).drop 7 from hpost)
    have hheld : m.rx = .driven :=
      hallowed 54 m .driven (by rw [List.getElem?_append_right (by omega), hlen]; rfl) rfl
    have hlow : (m.wire y).level .dio = .low := by simp [Wire.level, Met.wire, hheld]
    have hnone : (m.wire y).condition m.event = none :=
      Wire.condition_eq_none_of_edge (Wire.edge_dio_eq_none (fun _ => hlow) (by rw [hm]; nofun))
    have hstill : ∀ e ∈ (ackTrace .low b).drop 7, ¬(e = .drv .dio ∨ e = .rel .dio) := by cases b <;> decide
    rw [Dirs.conditions, hnone]
    exact conditions_eq_nil_of_dioKeepsToLowClk (hrest ▸ dioKeepsToLowClk_of_forall_ne hstill _) (n + 1)

/-! ### Counts and minimum durations (R126, R184) -/

theorem acknowledged_iff (a : Option Level) : acknowledged a = true ↔ a = some .low := by
  rw [acknowledged, beq_iff_eq]
  rfl

/-- What adds up along a trace, each bit slot giving n, is in a WRITE eight times n and what the acknowledgment slot
gives. -/
theorem additive_writeTrace {f : List Event → Nat} (hadd : ∀ xs ys, f (xs ++ ys) = f xs + f ys) {d : Byte} {n : Nat}
    (hslot : ∀ i, f (Spec.slotTrace d i) = n) (v : Level) (b : Bool) :
    f (Spec.writeTrace d v b) = 8 * n + f (ackTrace v b) := by
  have hnil : f [] = 0 := by
    have := hadd [] []
    rw [List.append_nil] at this
    omega
  have slots : ∀ is : List Nat, f (is.flatMap (Spec.slotTrace d)) = is.length * n := by
    intro is
    induction is with
    | nil => rw [List.flatMap_nil, hnil, List.length_nil, Nat.zero_mul]
    | cons i is ih => rw [List.flatMap_cons, hadd, hslot, ih, List.length_cons, Nat.succ_mul, Nat.add_comm]
  rw [writeTrace_eq, hadd, slots, List.length_range]

/-- An event that is no setting of DIO stands in a slot as often as among the slot's other five (R114). -/
theorem count_slotTrace {e : Event} (hrel : e ≠ .rel .dio) (hdrv : e ≠ .drv .dio) (d : Byte) (i : Nat) :
    (Spec.slotTrace d i).count e = [.drv .clk, .wait, .wait, .rel .clk, .wait].count e := by
  unfold Spec.slotTrace
  split
  · simp only [List.count_cons, beq_eq_false_iff_ne.mpr hrel.symm, Bool.false_eq_true, if_false, Nat.add_zero]
  · simp only [List.count_cons, beq_eq_false_iff_ne.mpr hdrv.symm, Bool.false_eq_true, if_false, Nat.add_zero]

theorem count_writeTrace (e : Event) (hrel : e ≠ .rel .dio) (hdrv : e ≠ .drv .dio) (d : Byte) (v : Level) (b : Bool) :
    (Spec.writeTrace d v b).count e =
      8 * [.drv .clk, .wait, .wait, .rel .clk, .wait].count e + (ackTrace v b).count e :=
  additive_writeTrace (f := List.count e) (fun _ _ => List.count_append) (count_slotTrace hrel hdrv d) v b

theorem length_writeTrace (d : Byte) (v : Level) (b : Bool) :
    (Spec.writeTrace d v b).length = 56 + (if v = .low then 1 else 0) + (if b then 1 else 0) := by
  rw [additive_writeTrace (n := 6) (fun _ _ => List.length_append) fun _ => rfl]
  cases v <;> cases b <;> rfl

theorem count_drvClk_writeTrace (d : Byte) (v : Level) (b : Bool) : (Spec.writeTrace d v b).count (.drv .clk) = 10 := by
  rw [count_writeTrace (.drv .clk) nofun nofun]
  cases v <;> cases b <;> rfl

theorem count_relClk_writeTrace (d : Byte) (v : Level) (b : Bool) : (Spec.writeTrace d v b).count (.rel .clk) = 9 := by
  rw [count_writeTrace (.rel .clk) nofun nofun]
  cases v <;> cases b <;> rfl

theorem count_rd_writeTrace (d : Byte) (v : Level) (b : Bool) : (Spec.writeTrace d v b).count (.rd v) = 1 := by
  rw [count_writeTrace (.rd v) nofun nofun]
  cases v <;> cases b <;> rfl

/-- A WRITE sets DIO once in each bit slot, releases it for the acknowledgment, and drives it once more if acknowledged. -/
theorem count_dio_writeTrace (d : Byte) (v : Level) (b : Bool) :
    (Spec.writeTrace d v b).count (.rel .dio) + (Spec.writeTrace d v b).count (.drv .dio) =
      8 + 1 + (if v = .low then 1 else 0) := by
  rw [additive_writeTrace (f := fun es => es.count (.rel .dio) + es.count (.drv .dio)) (n := 1)
    (fun xs ys => by simp only [List.count_append]; omega) fun i => by unfold Spec.slotTrace; split <;> rfl]
  cases v <;> cases b <;> rfl

theorem waits_writeTrace (d : Byte) (v : Level) (b : Bool) :
    waits (Spec.writeTrace d v b) = 27 + (if b then 1 else 0) := by
  rw [waits, count_writeTrace .wait nofun nofun]
  cases v <;> cases b <;> rfl

/-! ### CLK's edges (R94) -/

/-- The edges of CLK at the actions of a trace: CLK has no driver but the master, so no receiver stands in them. -/
def clkEdges (d : Dirs) : List Event → List Edge
  | [] => []
  | e :: es => ((⟨d, .released⟩ : Wire).edge e .clk).toList ++ clkEdges (d.after e) es

theorem edges_clk_eq_clkEdges (d : Dirs) (j : Nat) (ms : List Met) :
    (d.edges .clk j ms).map Prod.snd = clkEdges d (ms.map Met.event) := by
  induction ms generalizing d j with
  | nil => rfl
  | cons m ms ih =>
    have hedge : (m.wire d).edge m.event .clk = (⟨d, .released⟩ : Wire).edge m.event .clk := rfl
    rw [Dirs.edges, List.map_cons, clkEdges, ← ih _ (j + 1), hedge]
    cases (⟨d, .released⟩ : Wire).edge m.event .clk <;> rfl

theorem length_filter_edges_clk (d : Dirs) (j : Nat) (ms : List Met) (c : Edge) :
    ((d.edges .clk j ms).filter fun p => p.2 == c).length = (clkEdges d (ms.map Met.event)).count c := by
  rw [← edges_clk_eq_clkEdges, List.count_eq_countP, List.countP_map, List.countP_eq_length_filter]
  rfl

theorem clkEdges_append (d : Dirs) (es fs : List Event) :
    clkEdges d (es ++ fs) = clkEdges d es ++ clkEdges (d.replay es) fs := by
  induction es generalizing d with
  | nil => rfl
  | cons e es ih => rw [List.cons_append, clkEdges, clkEdges, ih, List.append_assoc]; rfl

/-- CLK's rises and falls alternate: a trace falls as often as it rises, and once more if it finds CLK released, once less
if it leaves it so. -/
theorem count_fall_clkEdges (d : Dirs) (es : List Event) :
    (clkEdges d es).count .fall + (if (d.replay es).clk = .released then 1 else 0) =
      (clkEdges d es).count .rise + (if d.clk = .released then 1 else 0) := by
  induction es generalizing d with
  | nil => rfl
  | cons e es ih =>
    have hstep : (((⟨d, .released⟩ : Wire).edge e .clk).toList.count .fall) +
        (if (d.after e).clk = .released then 1 else 0) =
        ((⟨d, .released⟩ : Wire).edge e .clk).toList.count .rise + (if d.clk = .released then 1 else 0) := by
      by_cases hbefore : d.clk = .released <;> by_cases hafter : (d.after e).clk = .released <;>
        simp [Wire.edge, Wire.level, Wire.after, edgeBetween, hbefore, hafter]
    have := ih (d.after e)
    rw [clkEdges, List.count_append, List.count_append, show d.replay (e :: es) = (d.after e).replay es from rfl]
    omega

/-- CLK rises once in each bit slot (R114). -/
theorem count_rise_slots (x : Dirs) (d : Byte) (is : List Nat) :
    (clkEdges x (is.flatMap (Spec.slotTrace d))).count .rise = is.length := by
  induction is generalizing x with
  | nil => rfl
  | cons i is ih =>
    have hslot : (clkEdges x (Spec.slotTrace d i)).count .rise = 1 := by
      obtain ⟨c, dio⟩ := x
      unfold Spec.slotTrace
      cases c <;> cases d.getLsbD i <;> rfl
    rw [List.flatMap_cons, clkEdges_append, List.count_append, hslot, ih, List.length_cons, Nat.add_comm]

theorem count_rise_writeTrace (x : Dirs) (d : Byte) (v : Level) (b : Bool) :
    (clkEdges x (Spec.writeTrace d v b)).count .rise = 9 := by
  have hack : ∀ y : Dirs, (clkEdges y (ackTrace v b)).count .rise = 1 := by
    rintro ⟨c, dio⟩
    cases c <;> cases v <;> cases b <;> rfl
  rw [writeTrace_eq, clkEdges_append, List.count_append, count_rise_slots, hack, List.length_range]

theorem count_fall_writeTrace (x : Dirs) (d : Byte) (v : Level) (b : Bool) :
    (clkEdges x (Spec.writeTrace d v b)).count .fall = if x.clk = .released then 10 else 9 := by
  have := count_fall_clkEdges x (Spec.writeTrace d v b)
  rw [replay_writeTrace, count_rise_writeTrace, if_neg nofun, Nat.add_zero] at this
  rw [this]
  split <;> rfl

/-- Settles O50: the counts add up slot by slot, and CLK's falls are counted by its rises. -/
theorem actionCountsAndMinimumDurations : Obligations.ActionCountsAndMinimumDurations := by
  unfold Obligations.ActionCountsAndMinimumDurations
  refine ⟨fun p d a v => ⟨startActions_events p v, rfl, writeActions_events p d v, startActions_length p, rfl, ?_⟩,
    fun b => by cases b <;> rfl, rfl, fun d v b => ⟨length_writeTrace d v b, count_drvClk_writeTrace d v b,
    count_relClk_writeTrace d v b, count_dio_writeTrace d v b, count_rd_writeTrace d v b, waits_writeTrace d v b, ?_,
    fun x ms hms => ⟨?_, ?_⟩⟩⟩
  · simp only [actionList, writeActions_length, acknowledged_iff]
  · rw [minDuration, waits_writeTrace]
    cases b <;> rfl
  · rw [length_filter_edges_clk, hms, count_rise_writeTrace]
  · rw [length_filter_edges_clk, hms, count_fall_writeTrace]

end Sys2Proof.Machine

/-! The host's display procedures: the digits they write, the segment bytes they compose, and the words they issue. -/

namespace Sys2Proof.Machine

/-! ### The digits (R131, R132) -/

/-- The digits of a number read as its last four decimal places (R131). -/
theorem value_extractedDigits (v : Nat) :
    (extractedDigits v).p0.val * 1000 + (extractedDigits v).p1.val * 100 + (extractedDigits v).p2.val * 10 +
      (extractedDigits v).p3.val = v % 10000 := by
  simp only [extractedDigits, lastDigit]
  omega

/-- Settles O51: the digits written are those of `value_extractedDigits`. -/
theorem extractDigitsWritesTheDecimalDigits : Obligations.ExtractDigitsWritesTheDecimalDigits := by
  unfold Obligations.ExtractDigitsWritesTheDecimalDigits
  exact fun s value => ⟨extractedDigits value.toNat, rfl, value_extractedDigits value.toNat⟩

/-- One turn of the carry loop is addition with carry in base ten (R132). -/
theorem value_carryInto (carry : Bool) (d : Digit) :
    (carryInto carry d).1.val + 10 * (carryInto carry d).2.toNat = d.val + carry.toNat := by
  cases carry with
  | false => rfl
  | true =>
    revert d
    decide

theorem roundedDigits_of_le {x : Quad Digit} (h : x.p3.val ≤ 5) : roundedDigits x = { x with p3 := 0 } := by
  have hcarry : decide (5 < x.p3.val) = false := decide_eq_false (by omega)
  rw [roundedDigits, hcarry]
  rfl

/-- Rounding up: the carries of the three turns cancel, but for the last one, which is dropped (R132). -/
theorem value_roundedDigits_of_lt {x : Quad Digit} (h : 5 < x.p3.val) :
    (roundedDigits x).p0.val * 1000 + (roundedDigits x).p1.val * 100 + (roundedDigits x).p2.val * 10 +
      (roundedDigits x).p3.val = (x.p0.val * 1000 + x.p1.val * 100 + x.p2.val * 10 + 10) % 10000 := by
  have hcarry : decide (5 < x.p3.val) = true := decide_eq_true h
  simp only [roundedDigits, hcarry]
  have h2 := value_carryInto true x.p2
  have h1 := value_carryInto (carryInto true x.p2).2 x.p1
  have h0 := value_carryInto (carryInto (carryInto true x.p2).2 x.p1).2 x.p0
  rw [Bool.toNat_true] at h2
  simp only [Fin.val_zero]
  omega

theorem State.roundDigits_of_buffer {s : State} {x : Quad Digit} (h : s.buffer = some x) :
    s.roundDigits = s.setBuffer (roundedDigits x) := by
  rw [State.roundDigits, h]

/-- Settles O52: the digits written are the rounded ones, in the two cases of the last digit. -/
theorem roundDigitsRoundsTheLastPlace : Obligations.RoundDigitsRoundsTheLastPlace := by
  unfold Obligations.RoundDigitsRoundsTheLastPlace
  exact fun s x hx =>
    ⟨roundedDigits x, State.roundDigits_of_buffer hx, roundedDigits_of_le, value_roundedDigits_of_lt⟩

/-! ### The segment bytes (R133) -/

section composeAt
variable (c : DisplayConfig) (i : Nat) (d : Digit) (stop : Bool)

/-- Compose's test for a leading zero is the negation of the four reasons to show a digit (R133). -/
theorem isLeadingZero_iff : (!c.zb && decide (d = 0) && decide (i ≠ 3) && !stop) = true ↔
    ¬(c.zb = true ∨ d ≠ 0 ∨ i = 3 ∨ stop = true) := by
  simp [and_assoc]

/-- The byte of one position (R133). -/
theorem composeAt_fst : (composeAt c i d stop).1 =
    if c.maxDigits ≤ i then 0x00#8
    else if i = c.dp then Config.seg d ||| 0x80#8
    else if c.zb = true ∨ d ≠ 0 ∨ i = 3 ∨ stop = true then Config.seg d
    else 0x00#8 := by
  by_cases hdp : i = c.dp
  · simp only [composeAt, if_pos hdp]
    rfl
  · simp only [composeAt, if_neg hdp, isLeadingZero_iff, ite_not, apply_ite Prod.fst]

/-- When blanking has stopped after one position (R133). -/
theorem composeAt_snd_iff : (composeAt c i d stop).2 = true ↔
    stop = true ∨ d ≠ 0 ∨ (i ≠ c.dp ∧ (c.zb = true ∨ i = 3)) := by
  by_cases hdp : i = c.dp
  · simp [composeAt, hdp]
  · simp only [composeAt, if_neg hdp, isLeadingZero_iff, ite_not, apply_ite Prod.snd]
    split <;> grind

/-- Left of the last position, blanking is off or has stopped after a digit if it was before or the digit is not zero. -/
theorem zb_or_composeAt_snd (hi : i ≠ 3) :
    (c.zb || (composeAt c i d stop).2) = (c.zb || stop || decide (d ≠ 0)) := by
  rw [Bool.eq_iff_iff]
  simp only [Bool.or_eq_true, composeAt_snd_iff, decide_eq_true_eq]
  grind

/-- One position's byte among the four digits xs, if blanking stands there as the digits to its left say (R133). -/
theorem composeAt_fst_eq_segment {xs : List Digit} (hd : xs[i]? = some d)
    (hstop : (c.zb || stop) = (c.zb || (xs.take i).any fun d => decide (d ≠ 0))) :
    (composeAt c i d stop).1 = Spec.segment c xs i d := by
  have hshows : Spec.shows c.zb xs i = true ↔ c.zb = true ∨ d ≠ 0 ∨ i = 3 ∨ stop = true := by
    rw [Spec.shows, hd]
    rw [Bool.eq_iff_iff, Bool.or_eq_true, Bool.or_eq_true] at hstop
    simp only [Bool.or_eq_true, beq_iff_eq, decide_eq_true_eq, ne_eq, Option.some.injEq]
    grind
  simp only [composeAt_fst, Spec.segment, hshows]

end composeAt

/-- Compose, each position decided by the digits to its left in place of the walk over them (R133). -/
theorem compose_eq_segments (c : DisplayConfig) (x : Quad Digit) : compose c x =
    ⟨Spec.segment c [x.p0, x.p1, x.p2, x.p3] 0 x.p0, Spec.segment c [x.p0, x.p1, x.p2, x.p3] 1 x.p1,
     Spec.segment c [x.p0, x.p1, x.p2, x.p3] 2 x.p2, Spec.segment c [x.p0, x.p1, x.p2, x.p3] 3 x.p3⟩ := by
  rw [compose]
  congr 1
  · exact composeAt_fst_eq_segment c 0 x.p0 false rfl rfl
  · exact composeAt_fst_eq_segment c 1 x.p1 _ rfl (by simp [zb_or_composeAt_snd])
  · exact composeAt_fst_eq_segment c 2 x.p2 _ rfl (by simp [zb_or_composeAt_snd, Bool.or_assoc])
  · exact composeAt_fst_eq_segment c 3 x.p3 _ rfl (by simp [zb_or_composeAt_snd, Bool.or_assoc])

/-- Settles O53: the whole by `compose_eq_segments`, and one position by its byte and by when blanking has stopped. -/
theorem composeEmitsOneOfThreeKinds : Obligations.ComposeEmitsOneOfThreeKinds := by
  unfold Obligations.ComposeEmitsOneOfThreeKinds
  refine ⟨compose_eq_segments, fun c i d stop => ?_⟩
  rw [composeAt_fst]
  refine ⟨?_, fun h => if_pos h, fun h hdp => ?_, fun h hdp hshown => ?_, fun hdp hzb hd hi hstop => ?_,
    composeAt_snd_iff c i d stop⟩
  · split
    · exact .inl rfl
    split
    · exact .inr (.inr rfl)
    split
    · exact .inr (.inl rfl)
    · exact .inl rfl
  · rw [if_neg (by omega), if_pos hdp]
  · rw [if_neg (by omega), if_neg hdp, if_pos hshown]
  · simp [hdp, hzb, hd, hi, hstop]

/-! ### The words issued (R134 to R136) -/

/-- The requests of a RenderFrame with segment bytes b and display-on byte e (R134). -/
def renderInstrs (b : Quad Byte) (e : Byte) : List Instr :=
  frameInstrs [Config.cmdSetDataMode] ++ frameInstrs [Config.cmdStartAddress, b.p0, b.p1, b.p2, b.p3] ++ frameInstrs [e]

theorem reqWords_renderInstrs (b : Quad Byte) (e : Byte) : reqWords (renderInstrs b e) = Spec.renderWords b e := by
  rw [renderInstrs, reqWords_append, reqWords_append, reqWords_frameInstrs, reqWords_frameInstrs, reqWords_frameInstrs]
  rfl

theorem framed_renderInstrs (b : Quad Byte) (e : Byte) : Spec.framed false (renderInstrs b e) = some false :=
  rfl

/-- The display-on byte is the sum reduced to a byte (R130). -/
theorem displayOnByte_eq (n : Nat) : displayOnByte n = BitVec.ofNat 8 ((0x88 + n) % 256) :=
  BitVec.eq_of_toNat_eq (by
    rw [displayOnByte, BitVec.toNat_ofNat, BitVec.toNat_ofNat]
    exact (Nat.mod_mod _ _).symm)

/-- CONFIG_RANGE marked under a condition, as one record: the bit takes the condition on (R130, R148). -/
theorem FaultBits.set_configRange_if (f : FaultBits) (b : Bool) :
    (if b then f.set .configRange else f) = { f with configRange := f.configRange || b } := by
  cases b
  · simp
  · simp [FaultBits.set]

/-- UNSET_READ marked under a condition (R148, R152). -/
theorem FaultBits.set_unsetRead_if (f : FaultBits) (b : Bool) :
    (if b then f.set .unsetRead else f) = { f with unsetRead := f.unsetRead || b } := by
  cases b
  · simp
  · simp [FaultBits.set]

/-- The range check marks a configuration out of range and writes nothing else (R130). -/
theorem State.checkConfig_eq (s : State) : s.checkConfig = { s with
    faults := { s.faults with configRange := s.faults.configRange || Spec.outOfRange s.display } } := by
  have hrange : (!s.display.inRange) = Spec.outOfRange s.display := by
    rw [Bool.eq_iff_iff]
    simp only [DisplayConfig.inRange, Spec.outOfRange, Bool.not_eq_true', Bool.and_eq_false_iff,
      decide_eq_true_eq, decide_eq_false_iff_not]
    omega
  rw [State.checkConfig, State.raiseIf_eq, hrange, FaultBits.set_configRange_if]

/-- RenderFrame from any state (R134): the faults it marks and the words it issues. -/
theorem State.renderFrame_eq (s : State) : s.renderFrame = { s with
    program := s.program ++ Spec.renderWords s.segments (displayOnByte s.display.brightness)
    faults := { s.faults with
      configRange := s.faults.configRange || Spec.outOfRange s.display
      unsetRead := s.faults.unsetRead || s.buffer.isNone } } := by
  rw [← reqWords_renderInstrs, renderInstrs, reqWords_append, reqWords_append, State.renderFrame, State.checkConfig_eq,
    State.raiseIf_eq, FaultBits.set_unsetRead_if]
  rfl

theorem State.segments_of_buffer {s : State} {x : Quad Digit} (h : s.buffer = some x) :
    s.segments = compose s.display x := by
  rw [State.segments, h]

theorem State.segments_of_unset {s : State} (h : s.buffer = none) :
    s.segments = ⟨Config.unsetSegment 0, Config.unsetSegment 1, Config.unsetSegment 2, Config.unsetSegment 3⟩ := by
  rw [State.segments, h]

/-- RenderFrame with a set buffer (R134): no read of it is marked. -/
theorem State.renderFrame_of_buffer {s : State} {x : Quad Digit} (h : s.buffer = some x) : s.renderFrame = { s with
    program := s.program ++ Spec.renderWords (compose s.display x) (displayOnByte s.display.brightness)
    faults := { s.faults with configRange := s.faults.configRange || Spec.outOfRange s.display } } := by
  rw [State.renderFrame_eq, State.segments_of_buffer h, h, Option.isNone_some, Bool.or_false]

/-- Settles O54: in range nothing is marked, and the words are those of `renderInstrs`. -/
theorem renderFrameIssuesThreeFrames : Obligations.RenderFrameIssuesThreeFrames := by
  unfold Obligations.RenderFrameIssuesThreeFrames
  intro s x hx hbright hmin hmax
  have hrange : Spec.outOfRange s.display = false := decide_eq_false (by omega)
  refine ⟨renderInstrs (compose s.display x) (displayOnByte s.display.brightness), ?_, ?_, rfl,
    framed_renderInstrs _ _⟩
  · rw [State.renderFrame_of_buffer hx, hrange, Bool.or_false, reqWords_renderInstrs]
  · rw [displayOnByte, BitVec.ofNat_add]
    rfl

/-- Settles O55: the bytes are the state's segments. -/
theorem renderFrameMarksItsFaults : Obligations.RenderFrameMarksItsFaults := by
  unfold Obligations.RenderFrameMarksItsFaults
  intro s
  rw [← displayOnByte_eq]
  exact ⟨s.segments, fun x => State.segments_of_buffer, State.segments_of_unset, rfl, State.renderFrame_eq s⟩

/-- Settles O56: the check comes before the branch, and both branches issue one frame. -/
theorem setDisplayPowerIssuesOneFrame : Obligations.SetDisplayPowerIssuesOneFrame := by
  unfold Obligations.SetDisplayPowerIssuesOneFrame
  intro s on
  rw [State.setDisplayPower, State.checkConfig_eq, frameWords, reqWords_frameInstrs]
  cases on with
  | false => rfl
  | true =>
    rw [if_pos rfl, if_pos rfl, ← displayOnByte_eq]
    rfl

/-- Before it renders, UpdateDisplay has set the buffer and written nothing else (R136). -/
theorem exists_setBuffer_of_updateDisplay (s : State) (value : BitVec 16) : ∃ x : Quad Digit,
    (if s.display.maxDigits < 4 then (s.extractDigits value).roundDigits else s.extractDigits value) = s.setBuffer x ∧
    s.updateDisplay value = (s.setBuffer x).renderFrame := by
  by_cases hround : s.display.maxDigits < 4
  · exact ⟨roundedDigits (extractedDigits value.toNat), if_pos hround, congrArg State.renderFrame (if_pos hround)⟩
  · exact ⟨extractedDigits value.toNat, if_neg hround, congrArg State.renderFrame (if_neg hround)⟩

/-- Settles O57: what is rendered is the state with the buffer that the two procedures before set. -/
theorem updateDisplayRendersTheValue : Obligations.UpdateDisplayRendersTheValue := by
  unfold Obligations.UpdateDisplayRendersTheValue
  intro s value
  obtain ⟨x, hset, hupdate⟩ := exists_setBuffer_of_updateDisplay s value
  refine ⟨x, by rw [hset, State.setBuffer_buffer], ?_⟩
  rw [hupdate, State.renderFrame_of_buffer (s.setBuffer_buffer x), displayOnByte_eq]
  rfl

end Sys2Proof.Machine

/-! The exceptions: the tick flag, which only the interrupt writes, and the sticky fault bits: what sets one, and what a set
bit keeps a run from. -/

namespace Sys2Proof.Machine

/-! ### The tick flag (R155) -/

/-- The thread's step keeps the tick flag and the scheduler's fields (R88, R155). -/
theorem withClock_of_threadStep {s t : State} (h : threadStep s = .next t) : t.withClock s = t := by
  have hclock : threadStep s = andThen (threadStep s) fun u => u.withClock s := threadStep_withClock s s
  rw [h] at hclock
  injection hclock with hclock
  exact hclock.symm

/-- Settles O9: the tick flag is a field of the clock, which the thread's step neither reads nor writes; the scheduler's
fields, the rest of the clock, are those of s. -/
theorem theThreadNeitherReadsNorWritesTick : Obligations.TheThreadNeitherReadsNorWritesTick := by
  unfold Obligations.TheThreadNeitherReadsNorWritesTick
  intro s b
  refine ⟨?_, fun t h => (congrArg State.tick (withClock_of_threadStep h)).symm⟩
  calc threadStep (s.setTick b)
      = andThen (threadStep s) fun t => t.withClock (s.setTick b) := threadStep_withClock s (s.setTick b)
    _ = andThen (threadStep s) fun t => t.setTick b := by
      cases h : threadStep s with
      | next t => exact congrArg (fun u => Host.Outcome.next (u.setTick b)) (withClock_of_threadStep h)
      | fault | refused => rfl

/-! ### What sets a fault bit (R147, R149, R151) -/

/-- A bit newly set by a conditional raise is the one raised, and the condition held (R148). -/
theorem FaultBits.eq_of_newly_set {f : FaultBits} {b : Bool} {c d : Cause} (hclear : f.get c = false)
    (hset : (if b then f.set d else f).get c = true) : c = d ∧ b = true := by
  cases b with
  | false => cases hclear.symm.trans hset
  | true => exact ⟨by simpa [hclear] using hset, rfl⟩

/-- Settles O34: of all transitions only the acceptance or the refusal of a word and the end of a run raise a fault, each
its own; the word accepted is the encoding of its request. -/
theorem whoRaisesEachFault : Obligations.WhoRaisesEachFault := by
  unfold Obligations.WhoRaisesEachFault
  intro s t c h hclear hset
  cases transition_of_step s t h with
  | timer => cases hclear.symm.trans hset
  | master op k a =>
    rw [State.advanceSeq_faults] at hset
    cases hclear.symm.trans hset
  | accept op d w ha hq hw hd =>
    obtain ⟨hc, hmis⟩ : c = .framing ∧ misframed op s.frameOpen = true := FaultBits.eq_of_newly_set hclear hset
    have hcode := encode_of_decodeReq w _ hd
    refine ⟨ha, hq, .inr ⟨hc, ?_⟩⟩
    cases op with
    | start => cases hcode; exact .inl ⟨hw, hmis⟩
    | stop => cases hcode; exact .inr (.inl ⟨hw, (Bool.not_eq_true' _).mp hmis⟩)
    | write => cases hcode; exact .inr (.inr (.inl ⟨d, hw, (Bool.not_eq_true' _).mp hmis⟩))
  | refuse w e ha hq hw hd =>
    have hc : c = .illegalRequest := (FaultBits.eq_of_newly_set (b := true) hclear hset).1
    exact ⟨ha, hq, .inl ⟨hc, w, hw, (decodeReq_rejects_iff w).mp ⟨e, hd⟩⟩⟩
  | endRun ha hq hw =>
    rw [State.endRun_eq] at hset
    obtain ⟨hc, hopen⟩ : c = .framing ∧ s.frameOpen = true := FaultBits.eq_of_newly_set hclear hset
    exact ⟨ha, hq, .inr ⟨hc, .inr (.inr (.inr ⟨hw, hopen⟩))⟩⟩

/-! ### What a fault bit keeps a run from (R148, R185) -/

@[simp] theorem State.withClock_faults (s e : State) : (s.withClock e).faults = s.faults := rfl

/-- What an agent does is, on the block, a step with the choice of that agent imposed (R83; log entry 2). -/
theorem exists_step_of_agentStep {a : Agent} {s t : State} (h : agentStep a s = .next t) :
    ∃ u, step { s with sched := a :: s.sched } = .next u ∧ t.withClock u = u := by
  cases a with
  | timer => cases h; exact ⟨_, rfl, rfl⟩
  | thread =>
    refine ⟨t.withClock { s with turns := s.turns + 1 }, ?_, rfl⟩
    have hstep := threadStep_withClock s { s with turns := s.turns + 1 }
    rw [show threadStep s = .next t from h] at hstep
    exact hstep

/-- No agent's step clears a fault bit (R148). -/
theorem faults_le_of_agentStep {a : Agent} {s t : State} (h : agentStep a s = .next t) : s.faults.le t.faults := by
  obtain ⟨u, hstep, hclock⟩ := exists_step_of_agentStep h
  have hfaults : t.faults = u.faults := by rw [← State.withClock_faults t u, hclock]
  have hsticky := faultBitsAreSticky _ u hstep
  rw [hfaults]
  exact hsticky

/-- Nor do the steps of a list of agents (R148). -/
theorem faults_le_of_runAgents {as : List Agent} {s t : State} (h : runAgents as s = .next t) :
    s.faults.le t.faults := by
  induction as generalizing s with
  | nil => cases h; exact FaultBits.le_refl _
  | cons a as ih =>
    rw [runAgents_cons] at h
    cases hstep : agentStep a s with
    | next u =>
      rw [hstep] at h
      exact FaultBits.le_trans _ _ _ (faults_le_of_agentStep hstep) (ih h)
    | fault | refused => rw [hstep] at h; cases h

/-- In a final state no fault bit is set (R185): the check at the end of a run clears none. -/
theorem State.faults_get_of_final {t : State} (h : t.final = true) (c : Cause) : t.faults.get c = false := by
  have hnone : t.endRun.faults = FaultBits.none := (FaultBits.clear_iff _).mp (Bool.and_eq_true_iff.mp h).2
  have hle : t.faults.le FaultBits.none := hnone ▸ State.raiseIf_le t t.frameOpen .framing
  refine Bool.eq_false_iff.mpr fun hset => ?_
  have hget := hle c hset
  cases c <;> cases hget

/-- Settles O35: the bit is still set at the end of the run, by induction on the agents, and in a final state none is. -/
theorem aFaultedRunIsNeverFinal : Obligations.AFaultedRunIsNeverFinal := by
  unfold Obligations.AFaultedRunIsNeverFinal
  intro as s t c hset hrun
  refine Bool.eq_false_iff.mpr fun hfinal => ?_
  cases (faults_le_of_runAgents hrun c hset).symm.trans (State.faults_get_of_final hfinal c)

end Sys2Proof.Machine

/-! Reset and the launch, the end of a run, the time that the WAITs of a trace take at least, and that every weakly fair
execution ends its run. -/

namespace Sys2Proof.Machine

/-! ### Executions (R83, R186) -/

/-- The invariant holds after any agent's step: it stands on no clock (R83). -/
theorem State.Inv.agentStep {a : Agent} {s t : State} (hs : s.Inv) (h : agentStep a s = .next t) : t.Inv := by
  obtain ⟨u, hstep, hclock⟩ := exists_step_of_agentStep h
  have himposed : State.Inv { s with sched := a :: s.sched } := hs
  have hu : (t.withClock u).Inv := hclock.symm ▸ himposed.transition (transition_of_step _ u hstep)
  exact hu

theorem Execution.inv {a : Nat → Agent} {σ : Nat → State} (h : Execution a σ) (h0 : (σ 0).Inv) (n : Nat) :
    (σ n).Inv := by
  induction n with
  | zero => exact h0
  | succ n ih => exact ih.agentStep (h n)

/-- While only the interrupt steps, from moment n on, nothing but the clock changes (R88, R155). -/
theorem Execution.eq_withClock_of_timer {a : Nat → Agent} {σ : Nat → State} (h : Execution a σ) {n : Nat}
    (htimer : ∀ m, n ≤ m → a m = .timer) {m : Nat} (hm : n ≤ m) : σ m = (σ n).withClock (σ m) := by
  obtain ⟨k, rfl⟩ := Nat.exists_eq_add_of_le hm
  clear hm
  induction k with
  | zero => rfl
  | succ k ih =>
    have hstep := h (n + k)
    rw [htimer (n + k) (Nat.le_add_right n k)] at hstep
    injection hstep with hstep
    rw [← Nat.add_assoc, ← hstep, ih]
    rfl

/-! ### How many steps of the thread a run can still take (R87, R186) -/

/-- At most so many steps the thread still has before the run has ended: 1 + 58 for each word from pc on, and what a list
of 58 actions has left from the index of the request in progress. -/
def State.budget (s : State) : Nat :=
  (1 + 58) * (s.program.length - s.pc) +
    match s.seq with
    | .idle => 0
    | .run _ k => 58 - k

theorem State.budget_idle {s : State} (hq : s.seq = .idle) : s.budget = (1 + 58) * (s.program.length - s.pc) := by
  rw [State.budget, hq, Nat.add_zero]

theorem State.budget_run {s : State} {op : Op} {k : Nat} (hq : s.seq = .run op k) :
    s.budget = (1 + 58) * (s.program.length - s.pc) + (58 - k) := by
  rw [State.budget, hq]

theorem State.atEnd_iff (s : State) : s.atEnd = true ↔ s.seq = .idle ∧ s.pc = s.program.length := by
  simp [State.atEnd]

/-- An Idle state of the invariant at which no word is left is the end of the run (R22, R185). -/
theorem State.Inv.atEnd_of_no_word {s : State} (hs : s.Inv) (hq : s.seq = .idle) (hw : s.program[s.pc]? = none) :
    s.atEnd = true := by
  obtain ⟨hpc, -⟩ := hs
  exact s.atEnd_iff.mpr ⟨hq, Nat.le_antisymm hpc (List.getElem?_eq_none_iff.mp hw)⟩

/-- Before the end of the run the host's acceptance or the master's action is enabled (R83). -/
theorem State.Inv.enabled {s : State} (hs : s.Inv) (hend : s.atEnd = false) :
    s.hostEnabled = true ∨ s.masterEnabled = true := by
  cases hq : s.seq with
  | run op k => exact .inr (by simp [State.masterEnabled, State.busy, hq])
  | idle =>
    have hne : s.pc ≠ s.program.length := fun hpc => by
      cases hend.symm.trans (s.atEnd_iff.mpr ⟨hq, hpc⟩)
    obtain ⟨hpc, -⟩ := hs
    exact .inl (by simp [State.hostEnabled, hq, Nat.lt_of_le_of_ne hpc hne])

/-- The master's action spends a step of the budget (R86): its index lies in a list of at most 58. -/
theorem budget_master {s : State} {op : Op} {k : Nat} {a : LineAction} (hq : s.seq = .run op k)
    (hk : (s.actions op)[k]? = some a) : ((s.perform op k a).advanceSeq op k).budget + 1 ≤ s.budget := by
  have hlt : k < (s.actions op).length := (List.getElem?_eq_some_iff.mp hk).1
  have hle : (s.actions op).length ≤ 58 := actionList_length_le ..
  have hadv := State.advanceSeq_seq (s.perform op k a) op k
  have hwords : ((s.perform op k a).advanceSeq op k).program.length - ((s.perform op k a).advanceSeq op k).pc =
      s.program.length - s.pc := by simp
  rw [State.budget_run hq]
  split at hadv
  next => rw [State.budget_idle hadv, hwords]; omega
  next => rw [State.budget_run hadv, hwords]; omega

/-- Before the end of the run every step of the thread spends a step of the budget, and the interrupt's spends none. -/
theorem Transition.budget_add_le {s t : State} (h : Transition s t) (hs : s.Inv) (hend : s.atEnd = false) :
    t.budget + [s.agent].count .thread ≤ s.budget := by
  cases h with
  | timer ha => rw [ha]; exact Nat.le_refl _
  | master op k a ha hq hk =>
    rw [ha]
    exact budget_master (s := s.takeTurn) hq hk
  | accept op d w ha hq hw =>
    have hpc := pc_lt_of_word hw
    have hrun : (s.takeTurn.accepted op d).budget = (1 + 58) * (s.program.length - (s.pc + 1)) + (58 - 0) := rfl
    rw [ha, hrun, State.budget_idle hq, List.count_singleton_self]
    omega
  | refuse w e ha hq hw =>
    have hpc := pc_lt_of_word hw
    have hidle : s.takeTurn.refuseWord.budget = (1 + 58) * (s.program.length - (s.pc + 1)) := State.budget_idle hq
    rw [ha, hidle, State.budget_idle hq, List.count_singleton_self]
    omega
  | endRun ha hq hw => cases hend.symm.trans (hs.atEnd_of_no_word hq hw)

theorem budget_add_le_of_agentStep {a : Agent} {s t : State} (h : agentStep a s = .next t) (hs : s.Inv)
    (hend : s.atEnd = false) : t.budget + [a].count .thread ≤ s.budget := by
  obtain ⟨u, hstep, hclock⟩ := exists_step_of_agentStep h
  have himposed : State.Inv { s with sched := a :: s.sched } := hs
  have hbudget : t.budget = u.budget := (congrArg State.budget hclock : (t.withClock u).budget = u.budget)
  rw [hbudget]
  exact (transition_of_step _ u hstep).budget_add_le himposed hend

theorem threadSteps_succ (a : Nat → Agent) (n : Nat) :
    threadSteps a (n + 1) = threadSteps a n + [a n].count .thread := by
  simp only [threadSteps, List.range_succ, List.map_append, List.count_append, List.map_singleton]

theorem threadSteps_mono (a : Nat → Agent) {m n : Nat} (h : m ≤ n) : threadSteps a m ≤ threadSteps a n :=
  ((List.range_sublist.mpr h).map a).count_le _

section execution
variable {a : Nat → Agent} {σ : Nat → State}

/-- Up to the end of the run the thread's steps come out of the first state's budget. -/
theorem Execution.budget_add_threadSteps_le (h : Execution a σ) (h0 : (σ 0).Inv) (n : Nat)
    (hend : ∀ m, m < n → (σ m).atEnd = false) : (σ n).budget + threadSteps a n ≤ (σ 0).budget := by
  induction n with
  | zero => exact Nat.le_refl _
  | succ n ih =>
    have hstep := budget_add_le_of_agentStep (h n) (h.inv h0 n) (hend n (Nat.lt_succ_self n))
    have hbefore := ih fun m hm => hend m (Nat.lt_succ_of_lt hm)
    rw [threadSteps_succ]
    omega

/-- If the run has not ended at moment n, a weakly fair scheduler lets the thread step at n or later (R186): an interrupt's
step leaves enabled what is enabled. -/
theorem WeaklyFair.exists_thread (hfair : WeaklyFair a σ) (h : Execution a σ) {n : Nat} (hn : (σ n).Inv)
    (hend : (σ n).atEnd = false) : ∃ m, n ≤ m ∧ a m = .thread := by
  refine Classical.byContradiction fun hnone => ?_
  have htimer : ∀ m, n ≤ m → a m = .timer := fun m hm => by
    cases ha : a m with
    | timer => rfl
    | thread => exact absurd ⟨m, hm, ha⟩ hnone
  obtain ⟨hhost, hmaster⟩ := hfair n
  rcases hn.enabled hend with hen | hen
  · obtain ⟨m, hm, ha, -⟩ := hhost fun m hm => by rw [h.eq_withClock_of_timer htimer hm]; exact hen
    exact hnone ⟨m, hm, ha⟩
  · obtain ⟨m, hm, ha, -⟩ := hmaster fun m hm => by rw [h.eq_withClock_of_timer htimer hm]; exact hen
    exact hnone ⟨m, hm, ha⟩

/-- A weakly fair execution ends its run (R186): else the thread would take more steps than the first budget has. -/
theorem WeaklyFair.exists_atEnd (hfair : WeaklyFair a σ) (h : Execution a σ) (h0 : (σ 0).Inv) :
    ∃ n, (σ n).atEnd = true := by
  refine Classical.byContradiction fun hnone => ?_
  have hend : ∀ n, (σ n).atEnd = false := fun n => Bool.eq_false_iff.mpr fun hn => hnone ⟨n, hn⟩
  have many : ∀ b, ∃ n, b ≤ threadSteps a n := fun b => by
    induction b with
    | zero => exact ⟨0, Nat.zero_le _⟩
    | succ b ih =>
      obtain ⟨n, hn⟩ := ih
      obtain ⟨m, hm, ha⟩ := hfair.exists_thread h (h.inv h0 n) (hend n)
      have hmono := threadSteps_mono a hm
      refine ⟨m + 1, ?_⟩
      rw [threadSteps_succ, ha, List.count_singleton_self]
      omega
  obtain ⟨n, hn⟩ := many ((σ 0).budget + 1)
  have hspent := h.budget_add_threadSteps_le h0 n fun m _ => hend m
  omega

end execution

/-- The execution from s of the interrupt's steps alone (R186). -/
def timerRun (s : State) : Nat → State
  | 0 => s
  | n + 1 => (timerRun s n).timerInterrupt

theorem execution_timerRun (s : State) : Execution (fun _ => .timer) (timerRun s) :=
  fun _ => rfl

/-- Of the moments at which a test holds there is a first one. -/
theorem exists_first {p : Nat → Bool} (h : ∃ n, p n = true) : ∃ n, p n = true ∧ ∀ m, m < n → p m = false := by
  obtain ⟨n, hn⟩ := h
  induction n using Nat.strongRecOn with
  | ind n ih =>
    by_cases hbefore : ∃ m, m < n ∧ p m = true
    · obtain ⟨m, hm, hpm⟩ := hbefore
      exact ih m hm hpm
    · exact ⟨n, hn, fun m hm => Bool.eq_false_iff.mpr fun hpm => hbefore ⟨m, hm, hpm⟩⟩

/-- Settles O58: the first end, up to which the thread's steps come out of the budget; and the interrupt's steps alone, which
change the clock only. -/
theorem everyFairExecutionEnds : Obligations.EveryFairExecutionEnds := by
  unfold Obligations.EveryFairExecutionEnds
  refine ⟨fun a σ h hfair h0 hq => ?_, fun s => ⟨timerRun s, rfl, execution_timerRun s, fun n => ?_⟩⟩
  · obtain ⟨n, hn, hbefore⟩ := exists_first (hfair.exists_atEnd h h0)
    refine ⟨n, hn, hbefore, ?_⟩
    rw [← State.budget_idle hq]
    exact Nat.le_trans (Nat.le_add_left _ _) (h.budget_add_threadSteps_le h0 n hbefore)
  · rw [(execution_timerRun s).eq_withClock_of_timer (fun _ _ => rfl) (Nat.zero_le n)]
    rfl

/-! ### The time that WAITs take (R180, R184) -/

/-- How many WAITs stand strictly between actions i and j of a trace. -/
def waitsBetween (tr : List Event) (i j : Nat) : Nat :=
  waits ((tr.take j).drop (i + 1))

/-- No action, and so no WAIT, stands strictly between an action and the next. -/
theorem waitsBetween_eq_zero (tr : List Event) {i j : Nat} (h : j ≤ i + 1) : waitsBetween tr i j = 0 := by
  have hnil : (tr.take j).drop (i + 1) = [] :=
    List.drop_eq_nil_of_le (Nat.le_trans (List.length_take_le _ _) h)
  rw [waitsBetween, hnil]
  rfl

/-- One action further at most that action is one more WAIT. -/
theorem waitsBetween_succ_le (tr : List Event) (i j : Nat) :
    waitsBetween tr i (j + 1) ≤ waitsBetween tr i j + if tr[j]? = some .wait then 1 else 0 := by
  have hone : (tr[j]?.toList).count .wait = if tr[j]? = some .wait then 1 else 0 := by
    cases tr[j]? with
    | none => rfl
    | some e => simp [List.count_singleton]
  rw [waitsBetween, waits, List.take_add_one, List.drop_append, List.count_append, ← hone]
  exact Nat.add_le_add_left ((List.drop_sublist _ _).count_le _) _

/-- T_SETTLE for each of fewer WAITs is no more time. -/
theorem tSettle_mul_le {m n : Nat} (h : m ≤ n) : (Config.tSettle : Rat) * m ≤ Config.tSettle * n :=
  Rat.mul_le_mul_of_nonneg_left (Rat.natCast_le_natCast.mpr h) Rat.natCast_nonneg

theorem tSettle_mul_succ (n : Nat) : (Config.tSettle : Rat) * (n + 1 : Nat) = Config.tSettle * n + Config.tSettle := by
  rw [Rat.natCast_add, Rat.mul_add]
  exact congrArg _ (Rat.mul_one _)

/-- The time between two actions of a trace is at least T_SETTLE for each WAIT between them: by induction on their distance,
two actions at a time past a WAIT, the action before which is none. -/
theorem Timed.tSettle_mul_waitsBetween_le {tr : List Event} {t : Nat → Rat} (htimed : Timed tr t)
    (hapart : waitsApart tr) (i n : Nat) (hlt : i + n < tr.length) :
    (Config.tSettle : Rat) * waitsBetween tr i (i + n) ≤ t (i + n) - t i := by
  have ⟨hmono, hsettle⟩ := htimed
  match n with
  | 0 =>
    rw [Nat.add_zero, waitsBetween_eq_zero tr (Nat.le_succ i)]
    grind
  | 1 =>
    have hnext := hmono i hlt
    rw [waitsBetween_eq_zero tr (Nat.le_refl _)]
    grind
  | n + 2 =>
    have hlast : waitsBetween tr i (i + n + 2) ≤ _ := waitsBetween_succ_le tr i (i + n + 1)
    show (Config.tSettle : Rat) * waitsBetween tr i (i + n + 2) ≤ t (i + n + 2) - t i
    by_cases hwait : tr[i + n + 1]? = some .wait
    · have hbefore : tr[i + n]? ≠ some .wait := fun h => hapart _ h hwait
      have hprev := waitsBetween_succ_le tr i (i + n)
      rw [if_pos hwait] at hlast
      rw [if_neg hbefore] at hprev
      have hcount := tSettle_mul_le (Nat.le_trans hlast (Nat.succ_le_succ hprev))
      rw [tSettle_mul_succ] at hcount
      have ih := htimed.tSettle_mul_waitsBetween_le hapart i n (by omega)
      have hgap := hsettle (i + n) hlt hwait
      grind
    · rw [if_neg hwait] at hlast
      have hcount := tSettle_mul_le hlast
      have ih : _ ≤ t (i + n + 1) - t i := htimed.tSettle_mul_waitsBetween_le hapart i (n + 1) (by omega)
      have hgap := hmono (i + n + 1) hlt
      grind
termination_by n

/-- Settles O48: `Timed.tSettle_mul_waitsBetween_le` at the distance from i to j. -/
theorem everyWaitAddsASettleDelay : Obligations.EveryWaitAddsASettleDelay := by
  unfold Obligations.EveryWaitAddsASettleDelay
  intro tr t i j htimed hapart hij hlt
  obtain ⟨n, rfl⟩ := Nat.exists_eq_add_of_le hij
  exact htimed.tSettle_mul_waitsBetween_le hapart i n hlt

/-! ### Reset, launch and the end of a run (R167, R168, R173, R185) -/

/-- Settles O1: reset is the literal state of the table, and the first word of its program is at pc. -/
theorem resetLeavesTheLaunchState : Obligations.ResetLeavesTheLaunchState := by
  unfold Obligations.ResetLeavesTheLaunchState
  refine ⟨⟨rfl, rfl, rfl, rfl, rfl, rfl, rfl, fun c => ?_, rfl, rfl, rfl, rfl, rfl, rfl⟩, fun w ws => ?_⟩
  · cases c <;> rfl
  · exact threadStep_word (s := { State.reset with program := w :: ws }) rfl rfl

/-- Settles O2: no one drives a line at reset, and the DRV DIO of either START makes DIO fall while CLK is high. -/
theorem resetIsTheIdleBus : Obligations.ResetIsTheIdleBus := by
  unfold Obligations.ResetIsTheIdleBus
  refine ⟨(Wire.level_eq_high_iff _ _).mpr ⟨rfl, nofun⟩, (Wire.level_eq_high_iff _ _).mpr ⟨rfl, fun _ => rfl⟩,
    fun d => rfl, rfl, fun b => ?_⟩
  cases b with
  | false => exact ⟨0, rfl⟩
  | true => exact ⟨1, rfl⟩

theorem State.blockAtReset_reset : State.reset.blockAtReset :=
  ⟨rfl, rfl, rfl, rfl, rfl, rfl, rfl, rfl, rfl, rfl⟩

/-- With the block at reset no request is in progress and the trace is empty (R167). -/
theorem State.Inv.of_blockAtReset {s : State} (h : s.blockAtReset) : s.Inv := by
  obtain ⟨hdirs, hq, -, -, hack, -, -, htrace, hpc, -⟩ := h
  refine ⟨hpc ▸ Nat.zero_le _, State.seqOk_idle hq, State.traceOk_idle hq, ?_, (State.ackOk_idle hq).mpr ?_⟩
  · rw [State.dirsOk, hdirs, htrace]
    rfl
  · rw [hack, htrace]
    rfl

/-- Settles O3: reset and a clean launch both have the block at reset. -/
theorem cleanLaunchMeetsTheInvariant : Obligations.CleanLaunchMeetsTheInvariant := by
  unfold Obligations.CleanLaunchMeetsTheInvariant
  exact ⟨.of_blockAtReset State.blockAtReset_reset, fun b s ⟨hblock, _⟩ => .of_blockAtReset hblock⟩

/-- FAULT is clear when no cause's bit is set (R148). -/
theorem FaultBits.clear_iff_get (f : FaultBits) : f.clear = true ↔ ∀ c, f.get c = false := by
  rw [FaultBits.clear_iff]
  constructor
  · rintro rfl c
    cases c <;> rfl
  · intro h
    obtain ⟨illegal, framing, config, unset⟩ := f
    cases h .illegalRequest
    cases h .framing
    cases h .configRange
    cases h .unsetRead
    rfl

/-- Settles O12: the thread's step there is `State.endRun`, whose FAULT decides whether the state is final. -/
theorem endOfRunMarksAnOpenFrame : Obligations.EndOfRunMarksAnOpenFrame := by
  unfold Obligations.EndOfRunMarksAnOpenFrame
  intro s hq hpc
  have hend : s.atEnd = true := s.atEnd_iff.mpr ⟨hq, hpc⟩
  refine ⟨?_, hend, ?_⟩
  · rw [threadStep_end hq (List.getElem?_eq_none (Nat.le_of_eq hpc.symm)), State.endRun_eq]
    rfl
  · rw [State.final, hend, Bool.true_and, FaultBits.clear_iff_get, State.endRun_eq]
    rfl

end Sys2Proof.Machine
